-- ==== Sys2Proof/Word.lean ====
section
/-! DEFINITION. The word types of the block (00_scope R7) and the level of the signal pin. -/

namespace Sys2Proof

/-- An accumulator, and a field of the RTC, clock and known-date records: `FIELD_W` = 8 bits (R7). -/
abbrev Val := BitVec 8

/-- A duration in milliseconds: `DUR_W` = 15 bits, unsigned (R7, R11). -/
abbrev Dur := BitVec 15

/-- The event word `EV`: `EV_W` = 16 bits (R7, R81). -/
abbrev EvWord := BitVec 16

/-- A DecodeState code `POS`: `DS_W` = 6 bits (R7, R85). -/
abbrev Code := BitVec 6

/-- One byte of an instruction as the host lays it out. -/
abbrev Byte := BitVec 8

/-- The level a duration belongs to: bit 15 of the event word, 1 for High and 0 for Low (R29, R81). -/
inductive Level where
  | low
  | high
deriving DecidableEq, Repr

/-- R82: the value of the `level` bit. -/
def Level.bit : Level → BitVec 1
  | .low => 0
  | .high => 1

end Sys2Proof
end

