-- ==== Sys2Proof/Config.lean ====
section
/-! DEFINITION. What the spec leaves open as a named parameter. The thresholds, `SEC_CONST` and the position table are
hardwired (R5, R6, R86); they stand with the operations that use them. -/

namespace Sys2Proof

/-- R8: the two values of the parameter `MIDNIGHT_RULE`, the pair (minute, hour) that the midnight rule tests. -/
inductive MidnightRule where
  | corrected
  | decoded
deriving DecidableEq, Repr

/-- R8: `CORRECTED` is the default and the spec's reading (90_conflicts C2). -/
def Config.defaultMidnightRule : MidnightRule := .corrected

end Sys2Proof
end

