-- ==== Sys2Proof/Syntax.lean ====
section
/-! DEFINITION. The operations of the block, one constructor per row of spec/opcode_table.json: the five event-word
operations (R83), each with its duration, and the 64 position rules (R86), each with the accepted bit `b` (R131). -/

namespace Sys2Proof

inductive Instr where
  /-- `HIGH.ZERO` (R111). -/
  | highZero (dur : Dur)
  /-- `HIGH.ONE` (R112). -/
  | highOne (dur : Dur)
  /-- `HIGH.INVALID` (R113). -/
  | highInvalid (dur : Dur)
  /-- `LOW.START` (R114). -/
  | lowStart (dur : Dur)
  /-- `LOW.ORDINARY` (R115). -/
  | lowOrdinary (dur : Dur)
  /-- `POS.WAIT` (R140). -/
  | posWait (b : Bool)
  /-- `POS.B0` (R141). -/
  | posB0 (b : Bool)
  /-- `POS.B1` (R142). -/
  | posB1 (b : Bool)
  /-- `POS.B2` (R143). -/
  | posB2 (b : Bool)
  /-- `POS.B3` (R144). -/
  | posB3 (b : Bool)
  /-- `POS.B4` (R145). -/
  | posB4 (b : Bool)
  /-- `POS.B5` (R146). -/
  | posB5 (b : Bool)
  /-- `POS.B6` (R147). -/
  | posB6 (b : Bool)
  /-- `POS.B7` (R148). -/
  | posB7 (b : Bool)
  /-- `POS.B8` (R149). -/
  | posB8 (b : Bool)
  /-- `POS.B9` (R150). -/
  | posB9 (b : Bool)
  /-- `POS.B10` (R151). -/
  | posB10 (b : Bool)
  /-- `POS.B11` (R152). -/
  | posB11 (b : Bool)
  /-- `POS.B12` (R153). -/
  | posB12 (b : Bool)
  /-- `POS.B13` (R154). -/
  | posB13 (b : Bool)
  /-- `POS.B14` (R155). -/
  | posB14 (b : Bool)
  /-- `POS.B15` (R156). -/
  | posB15 (b : Bool)
  /-- `POS.B16` (R157). -/
  | posB16 (b : Bool)
  /-- `POS.B17` (R158). -/
  | posB17 (b : Bool)
  /-- `POS.B18` (R159). -/
  | posB18 (b : Bool)
  /-- `POS.B19` (R160). -/
  | posB19 (b : Bool)
  /-- `POS.B20` (R161). -/
  | posB20 (b : Bool)
  /-- `POS.B21` (R162). -/
  | posB21 (b : Bool)
  /-- `POS.B22` (R163). -/
  | posB22 (b : Bool)
  /-- `POS.B23` (R164). -/
  | posB23 (b : Bool)
  /-- `POS.B24` (R165). -/
  | posB24 (b : Bool)
  /-- `POS.B25` (R166). -/
  | posB25 (b : Bool)
  /-- `POS.B26` (R167). -/
  | posB26 (b : Bool)
  /-- `POS.B27` (R168). -/
  | posB27 (b : Bool)
  /-- `POS.B28` (R169). -/
  | posB28 (b : Bool)
  /-- `POS.B29` (R170). -/
  | posB29 (b : Bool)
  /-- `POS.B30` (R171). -/
  | posB30 (b : Bool)
  /-- `POS.B31` (R172). -/
  | posB31 (b : Bool)
  /-- `POS.B32` (R173). -/
  | posB32 (b : Bool)
  /-- `POS.B33` (R174). -/
  | posB33 (b : Bool)
  /-- `POS.B34` (R175). -/
  | posB34 (b : Bool)
  /-- `POS.B35` (R176). -/
  | posB35 (b : Bool)
  /-- `POS.B36` (R177). -/
  | posB36 (b : Bool)
  /-- `POS.B37` (R178). -/
  | posB37 (b : Bool)
  /-- `POS.B38` (R179). -/
  | posB38 (b : Bool)
  /-- `POS.B39` (R180). -/
  | posB39 (b : Bool)
  /-- `POS.B40` (R181). -/
  | posB40 (b : Bool)
  /-- `POS.B41` (R182). -/
  | posB41 (b : Bool)
  /-- `POS.B42` (R183). -/
  | posB42 (b : Bool)
  /-- `POS.B43` (R184). -/
  | posB43 (b : Bool)
  /-- `POS.B44` (R185). -/
  | posB44 (b : Bool)
  /-- `POS.B45` (R186). -/
  | posB45 (b : Bool)
  /-- `POS.B46` (R187). -/
  | posB46 (b : Bool)
  /-- `POS.B47` (R188). -/
  | posB47 (b : Bool)
  /-- `POS.B48` (R189). -/
  | posB48 (b : Bool)
  /-- `POS.B49` (R190). -/
  | posB49 (b : Bool)
  /-- `POS.B50` (R191). -/
  | posB50 (b : Bool)
  /-- `POS.B51` (R192). -/
  | posB51 (b : Bool)
  /-- `POS.B52` (R193). -/
  | posB52 (b : Bool)
  /-- `POS.B53` (R194). -/
  | posB53 (b : Bool)
  /-- `POS.B54` (R195). -/
  | posB54 (b : Bool)
  /-- `POS.B55` (R196). -/
  | posB55 (b : Bool)
  /-- `POS.B56` (R197). -/
  | posB56 (b : Bool)
  /-- `POS.B57` (R198). -/
  | posB57 (b : Bool)
  /-- `POS.B58` (R199). -/
  | posB58 (b : Bool)
  /-- `POS.SPARE` (R200). -/
  | posSpare (b : Bool)
  /-- `POS.UNDEF61` (R201). -/
  | posUndef61 (b : Bool)
  /-- `POS.UNDEF62` (R201). -/
  | posUndef62 (b : Bool)
  /-- `POS.UNDEF63` (R201). -/
  | posUndef63 (b : Bool)
deriving DecidableEq, Repr

end Sys2Proof
end

