-- ==== Sys2Proof/WellFormed.lean ====
section
/-! DEFINITION. Which operations an event word or a position code can select: the duration ranges of the operation map
(R83). A position rule takes either bit, so it is always well formed. -/

namespace Sys2Proof

/-- R83: `lo..hi`, both ends included. -/
def Dur.between (lo hi : Nat) (d : Dur) : Bool := decide (lo ≤ d.toNat) && decide (d.toNat ≤ hi)

/-- R83: the duration lies in the ranges the operation map gives the operation. -/
def Instr.wf : Instr → Bool
  | .highZero d => d.between 41 129
  | .highOne d => d.between 141 229
  | .highInvalid d => d.between 0 40 || d.between 130 140 || d.between 230 32767
  | .lowStart d => d.between 1601 1999
  | .lowOrdinary d => d.between 0 1600 || d.between 2000 32767
  | .posWait _ => true
  | .posB0 _ => true
  | .posB1 _ => true
  | .posB2 _ => true
  | .posB3 _ => true
  | .posB4 _ => true
  | .posB5 _ => true
  | .posB6 _ => true
  | .posB7 _ => true
  | .posB8 _ => true
  | .posB9 _ => true
  | .posB10 _ => true
  | .posB11 _ => true
  | .posB12 _ => true
  | .posB13 _ => true
  | .posB14 _ => true
  | .posB15 _ => true
  | .posB16 _ => true
  | .posB17 _ => true
  | .posB18 _ => true
  | .posB19 _ => true
  | .posB20 _ => true
  | .posB21 _ => true
  | .posB22 _ => true
  | .posB23 _ => true
  | .posB24 _ => true
  | .posB25 _ => true
  | .posB26 _ => true
  | .posB27 _ => true
  | .posB28 _ => true
  | .posB29 _ => true
  | .posB30 _ => true
  | .posB31 _ => true
  | .posB32 _ => true
  | .posB33 _ => true
  | .posB34 _ => true
  | .posB35 _ => true
  | .posB36 _ => true
  | .posB37 _ => true
  | .posB38 _ => true
  | .posB39 _ => true
  | .posB40 _ => true
  | .posB41 _ => true
  | .posB42 _ => true
  | .posB43 _ => true
  | .posB44 _ => true
  | .posB45 _ => true
  | .posB46 _ => true
  | .posB47 _ => true
  | .posB48 _ => true
  | .posB49 _ => true
  | .posB50 _ => true
  | .posB51 _ => true
  | .posB52 _ => true
  | .posB53 _ => true
  | .posB54 _ => true
  | .posB55 _ => true
  | .posB56 _ => true
  | .posB57 _ => true
  | .posB58 _ => true
  | .posSpare _ => true
  | .posUndef61 _ => true
  | .posUndef62 _ => true
  | .posUndef63 _ => true

end Sys2Proof
end

