-- ==== Sys2Proof/Decode.lean ====
section
/-! DEFINITION. The classifier's thresholds and decisions (R5, R118, R119), the decoder of event words (R81 to R83) and of
position codes (R85, R86), the byte forms the host reads them in (log 1, 2, 3), and the encoder. -/

namespace Sys2Proof

/-! ## The classification functions -/

/-- R5. -/
abbrev zeroLo : Nat := 40
/-- R5. -/
abbrev zeroHi : Nat := 130
/-- R5. -/
abbrev oneLo : Nat := 140
/-- R5. -/
abbrev oneHi : Nat := 230
/-- R5. -/
abbrev startLo : Nat := 1600
/-- R5. -/
abbrev startHi : Nat := 2000

/-- R11: an unsigned comparison with two constants, strict on both sides. -/
def Dur.inside (lo hi : Nat) (d : Dur) : Bool := decide (lo < d.toNat) && decide (d.toNat < hi)

/-- R82: the results of `classify_high`. -/
inductive HighSymbol where
  | zero
  | one
  | invalid
deriving DecidableEq, Repr

/-- R82: the results of `classify_low`. -/
inductive LowSymbol where
  | startMarker
  | ordinary
deriving DecidableEq, Repr

/-- R118. -/
def classifyHigh (d : Dur) : HighSymbol :=
  if d.inside zeroLo zeroHi then .zero
  else if d.inside oneLo oneHi then .one
  else .invalid

/-- R119. -/
def classifyLow (d : Dur) : LowSymbol :=
  if d.inside startLo startHi then .startMarker else .ordinary

/-! ## The event word -/

/-- R81: bit 15. -/
def EvWord.level (w : EvWord) : Level := if w.getLsbD 15 then .high else .low

/-- R81: bits 14:0. -/
def EvWord.dur (w : EvWord) : Dur := w.extractLsb' 0 15

/-- R81: the word of a level and a duration. -/
def evWord (l : Level) (d : Dur) : EvWord := l.bit ++ d

/-- R82, R83: the operation a level and a duration select. -/
def decodeEvent (l : Level) (d : Dur) : Instr :=
  match l with
  | .high =>
    match classifyHigh d with
    | .zero => .highZero d
    | .one => .highOne d
    | .invalid => .highInvalid d
  | .low =>
    match classifyLow d with
    | .startMarker => .lowStart d
    | .ordinary => .lowOrdinary d

/-- R83: the operation of an event word. -/
def decodeEv (w : EvWord) : Instr := decodeEvent w.level w.dur

/-! ## The position code -/

/-- R85, R86, R131: the position rule that a DecodeState code selects for the bit `b`. -/
def decodePos (c : Code) (b : Bool) : Instr :=
  match c.toNat with
  | 0 => .posWait b
  | 1 => .posB0 b
  | 2 => .posB1 b
  | 3 => .posB2 b
  | 4 => .posB3 b
  | 5 => .posB4 b
  | 6 => .posB5 b
  | 7 => .posB6 b
  | 8 => .posB7 b
  | 9 => .posB8 b
  | 10 => .posB9 b
  | 11 => .posB10 b
  | 12 => .posB11 b
  | 13 => .posB12 b
  | 14 => .posB13 b
  | 15 => .posB14 b
  | 16 => .posB15 b
  | 17 => .posB16 b
  | 18 => .posB17 b
  | 19 => .posB18 b
  | 20 => .posB19 b
  | 21 => .posB20 b
  | 22 => .posB21 b
  | 23 => .posB22 b
  | 24 => .posB23 b
  | 25 => .posB24 b
  | 26 => .posB25 b
  | 27 => .posB26 b
  | 28 => .posB27 b
  | 29 => .posB28 b
  | 30 => .posB29 b
  | 31 => .posB30 b
  | 32 => .posB31 b
  | 33 => .posB32 b
  | 34 => .posB33 b
  | 35 => .posB34 b
  | 36 => .posB35 b
  | 37 => .posB36 b
  | 38 => .posB37 b
  | 39 => .posB38 b
  | 40 => .posB39 b
  | 41 => .posB40 b
  | 42 => .posB41 b
  | 43 => .posB42 b
  | 44 => .posB43 b
  | 45 => .posB44 b
  | 46 => .posB45 b
  | 47 => .posB46 b
  | 48 => .posB47 b
  | 49 => .posB48 b
  | 50 => .posB49 b
  | 51 => .posB50 b
  | 52 => .posB51 b
  | 53 => .posB52 b
  | 54 => .posB53 b
  | 55 => .posB54 b
  | 56 => .posB55 b
  | 57 => .posB56 b
  | 58 => .posB57 b
  | 59 => .posB58 b
  | 60 => .posSpare b
  | 61 => .posUndef61 b
  | 62 => .posUndef62 b
  | _ => .posUndef63 b

/-! ## Bytes -/

/-- Why a byte string is no instruction. -/
inductive DecodeError where
  /-- An instruction has one byte (a position) or two (an event word). -/
  | wrongLength
  /-- Bit 7 of a position byte is no bit of the position form. -/
  | positionByteTooLarge
deriving DecidableEq, Repr

/-- DESIGN CHOICE (log 1): an event word as two bytes, bits 7:0 first. -/
def evBytes (w : EvWord) : List Byte := [w.extractLsb' 0 8, w.extractLsb' 8 8]

/-- DESIGN CHOICE (log 2): a position code with its bit `b` in bit 6. -/
def posByte (c : Code) (b : Bool) : Byte := 0#1 ++ BitVec.ofBool b ++ c

/-- R83, R86: total on any bytes; two bytes are an event word, one byte a position with its bit. -/
def decode : List Byte → Except DecodeError Instr
  | [p] => if p.getLsbD 7 then .error .positionByteTooLarge else .ok (decodePos (p.extractLsb' 0 6) (p.getLsbD 6))
  | [lo, hi] => .ok (decodeEv (hi ++ lo))
  | _ => .error .wrongLength

/-! ## The encoder -/

/-- R81, R83, R85, R86: the bytes of an operation. -/
def encode : Instr → List Byte
  | .highZero d => evBytes (evWord .high d)
  | .highOne d => evBytes (evWord .high d)
  | .highInvalid d => evBytes (evWord .high d)
  | .lowStart d => evBytes (evWord .low d)
  | .lowOrdinary d => evBytes (evWord .low d)
  | .posWait b => [posByte 0 b]
  | .posB0 b => [posByte 1 b]
  | .posB1 b => [posByte 2 b]
  | .posB2 b => [posByte 3 b]
  | .posB3 b => [posByte 4 b]
  | .posB4 b => [posByte 5 b]
  | .posB5 b => [posByte 6 b]
  | .posB6 b => [posByte 7 b]
  | .posB7 b => [posByte 8 b]
  | .posB8 b => [posByte 9 b]
  | .posB9 b => [posByte 10 b]
  | .posB10 b => [posByte 11 b]
  | .posB11 b => [posByte 12 b]
  | .posB12 b => [posByte 13 b]
  | .posB13 b => [posByte 14 b]
  | .posB14 b => [posByte 15 b]
  | .posB15 b => [posByte 16 b]
  | .posB16 b => [posByte 17 b]
  | .posB17 b => [posByte 18 b]
  | .posB18 b => [posByte 19 b]
  | .posB19 b => [posByte 20 b]
  | .posB20 b => [posByte 21 b]
  | .posB21 b => [posByte 22 b]
  | .posB22 b => [posByte 23 b]
  | .posB23 b => [posByte 24 b]
  | .posB24 b => [posByte 25 b]
  | .posB25 b => [posByte 26 b]
  | .posB26 b => [posByte 27 b]
  | .posB27 b => [posByte 28 b]
  | .posB28 b => [posByte 29 b]
  | .posB29 b => [posByte 30 b]
  | .posB30 b => [posByte 31 b]
  | .posB31 b => [posByte 32 b]
  | .posB32 b => [posByte 33 b]
  | .posB33 b => [posByte 34 b]
  | .posB34 b => [posByte 35 b]
  | .posB35 b => [posByte 36 b]
  | .posB36 b => [posByte 37 b]
  | .posB37 b => [posByte 38 b]
  | .posB38 b => [posByte 39 b]
  | .posB39 b => [posByte 40 b]
  | .posB40 b => [posByte 41 b]
  | .posB41 b => [posByte 42 b]
  | .posB42 b => [posByte 43 b]
  | .posB43 b => [posByte 44 b]
  | .posB44 b => [posByte 45 b]
  | .posB45 b => [posByte 46 b]
  | .posB46 b => [posByte 47 b]
  | .posB47 b => [posByte 48 b]
  | .posB48 b => [posByte 49 b]
  | .posB49 b => [posByte 50 b]
  | .posB50 b => [posByte 51 b]
  | .posB51 b => [posByte 52 b]
  | .posB52 b => [posByte 53 b]
  | .posB53 b => [posByte 54 b]
  | .posB54 b => [posByte 55 b]
  | .posB55 b => [posByte 56 b]
  | .posB56 b => [posByte 57 b]
  | .posB57 b => [posByte 58 b]
  | .posB58 b => [posByte 59 b]
  | .posSpare b => [posByte 60 b]
  | .posUndef61 b => [posByte 61 b]
  | .posUndef62 b => [posByte 62 b]
  | .posUndef63 b => [posByte 63 b]

/-! ## The table's words -/

/-- DEDUCED (log 3): a table row of 16 bits is an event word; any other row is a position, whose code is bits 5:0 (the
table's mask is 0x3F) and whose bit `b` is bit 6. -/
def tableBytes (nbits w : Nat) : List Byte :=
  if nbits = 16 then evBytes (BitVec.ofNat 16 w) else [BitVec.ofNat 8 (w % 128)]

/-- The instruction the decoder reads from a word numbered as spec/opcode_table.json numbers it. -/
def decodeTableWord (nbits w : Nat) : Option Instr :=
  match decode (tableBytes nbits w) with
  | .ok i => some i
  | .error _ => none

end Sys2Proof
end

