-- ==== Sys2Proof/Machine/State.lean ====
section
/-! DEFINITION. The state of the block and of its boundary (10_state.md), the records of the interface spaces
(30_encoding.md R90 to R95), and the state after reset (R33). -/

namespace Sys2Proof.Machine

/-! ## Records -/

/-- R90: the record of an `RTC` write, `write_time(second, minute, hour, weekday, day, month, year)`. -/
structure RtcRec where
  second : Val
  minute : Val
  hour : Val
  weekday : Val
  day : Val
  month : Val
  year : Val
deriving DecidableEq, Repr

/-- R91: the record of a `CLK` write; `dateWe` says whether the date fields are stored. -/
structure ClkRec where
  dateWe : Bool
  sec : Val
  min : Val
  hour : Val
  day : Val
  month : Val
  year : Val
deriving DecidableEq, Repr

/-- R92: the known date. -/
structure KDate where
  weekday : Val
  day : Val
  month : Val
  year : Val
deriving DecidableEq, Repr

/-- R95: the diagnostics events; code 7 is never emitted and has no constructor (log 21). -/
inductive DiagCode where
  | onZero
  | onOne
  | onStart
  | onInvalid
  | onReadStarted
  | onReadFailed
  | onSignalCommitted
deriving DecidableEq, Repr

/-- R95: the record of a `DIAG` write. -/
structure DiagRec where
  code : DiagCode
  dur : Dur
deriving DecidableEq, Repr

/-- R30: the process-wide clock state. -/
structure Clk where
  sec : Val
  min : Val
  hour : Val
  day : Val
  month : Val
  year : Val
deriving DecidableEq, Repr

/-- R29: the mailbox slot. -/
structure Slot where
  full : Bool
  level : Level
  dur : Dur
deriving DecidableEq, Repr

/-- R61, R284: one record delivered to a sink. -/
inductive OutRec where
  | rtc (r : RtcRec)
  | clk (r : ClkRec)
  | diag (r : DiagRec)
deriving DecidableEq, Repr

/-- R51: one step of an agent (log 5). A capture carries the measured length in milliseconds, which the collaborator
saturates (R56). -/
inductive AgentAction where
  /-- The block polls (R110). -/
  | poll
  /-- The capture collaborator writes the mailbox (R52). -/
  | capture (level : Level) (ms : Nat)
  /-- Another agent writes the clock state, a whole snapshot (R59, R296). -/
  | writeClk (c : Clk)
  /-- The environment supplies a new known date (R57). -/
  | supplyKDate (k : KDate)
  /-- The host applies reset (R280). -/
  | reset
deriving DecidableEq, Repr

/-- R24: the names of the accumulators. -/
inductive Field where
  | min
  | hour
  | day
  | month
  | year
deriving DecidableEq, Repr

/-- R250: the failure kinds, labels that no register, port or event carries (log 13). -/
inductive FailKind where
  | pulseTiming
  | structural
  | checksum
  | invalidState
deriving DecidableEq, Repr

/-! ## The state -/

structure State where
  /-- R21: DecodeState. -/
  ds : Code
  /-- R24: `x[MIN]`. -/
  xMin : Val
  /-- R24: `x[HOUR]`. -/
  xHour : Val
  /-- R24: `x[DAY]`. -/
  xDay : Val
  /-- R24: `x[MONTH]`. -/
  xMonth : Val
  /-- R24: `x[YEAR]`. -/
  xYear : Val
  /-- R26: the parity flag. -/
  par : Bool
  /-- R27: CommitIntent. -/
  ci : Bool
  /-- R29: the mailbox. -/
  slot : Slot
  /-- R30: the shared clock state. -/
  clk : Clk
  /-- R50, R57: the record in the `KDATE` space (log 6). -/
  kdate : KDate
  /-- R61, R284: the records delivered to the sinks, oldest first (log 12). -/
  out : List OutRec
  /-- R8: the parameter `MIDNIGHT_RULE`, the model's own field (log 9). -/
  midnightRule : MidnightRule
  /-- R51, R284: the agents' steps still to come, next first, the model's own field (log 5). -/
  agenda : List AgentAction
deriving DecidableEq, Repr

/-- No operation of the block stops it (R121, R284): there is no fault (log 14). Safe: nothing raises one. -/
inductive Fault where
deriving DecidableEq, Repr

inductive Refusal where
  /-- Raised by an arm of `exec` whose instruction has no meaning yet; no arm of this model is one. Safe. -/
  | notModelled (mnemonic : String)
deriving DecidableEq, Repr

/-- What a step answers. -/
abbrev Result := Host.Outcome State Fault Refusal

/-! ## Accessors -/

/-- R24: the read of `x[f]`. -/
def State.getX (f : Field) (s : State) : Val :=
  match f with
  | .min => s.xMin
  | .hour => s.xHour
  | .day => s.xDay
  | .month => s.xMonth
  | .year => s.xYear

/-- R24: the write of `x[f]`. -/
def State.setX (f : Field) (v : Val) (s : State) : State :=
  match f with
  | .min => { s with xMin := v }
  | .hour => { s with xHour := v }
  | .day => { s with xDay := v }
  | .month => { s with xMonth := v }
  | .year => { s with xYear := v }

/-- R21: the write of `ds`. -/
def State.setDs (c : Code) (s : State) : State := { s with ds := c }

/-! ## Reset -/

/-- R33: the state after reset. `slot.level`, `slot.dur`, `clk` and `kdate` have no reset value in the spec and hold 0
(DESIGN CHOICE, log 6, 7, 8); `agenda` is empty (DESIGN CHOICE, log 5). -/
def State.reset : State where
  ds := 0
  xMin := 0
  xHour := 0
  xDay := 0
  xMonth := 0
  xYear := 0
  par := false
  ci := false
  slot := { full := false, level := .low, dur := 0 }
  clk := { sec := 0, min := 0, hour := 0, day := 0, month := 0, year := 0 }
  kdate := { weekday := 0, day := 0, month := 0, year := 0 }
  out := []
  midnightRule := Config.defaultMidnightRule
  agenda := []

end Sys2Proof.Machine
end

