-- ==== Sys2Proof/Machine/Ops.lean ====
section
/-! DEFINITION. The named operations over the interface spaces (20_memory.md) and the registers, FailureRecovery with the
return from it (43_failure_recovery.md, R130, R256), and the steps of the other agents (R51). -/

namespace Sys2Proof.Machine

/-! ## The output ports -/

/-- R61: append a record to the trace of what the sinks received. -/
def State.deliver (o : OutRec) (s : State) : State := { s with out := s.out ++ [o] }

/-- R61: `emit E(d)`. -/
def State.emit (c : DiagCode) (d : Dur) (s : State) : State := s.deliver (.diag { code := c, dur := d })

/-- R58: `MemWrite(RTC, 1, rec)`. -/
def State.writeRtc (r : RtcRec) (s : State) : State := s.deliver (.rtc r)

/-- R59, R91: what a record leaves in the clock state; the date fields are stored only with `dateWe`. -/
def Clk.update (r : ClkRec) (c : Clk) : Clk where
  sec := r.sec
  min := r.min
  hour := r.hour
  day := if r.dateWe then r.day else c.day
  month := if r.dateWe then r.month else c.month
  year := if r.dateWe then r.year else c.year

/-- R59: `MemWrite(CLK, 1, rec)`, one snapshot. -/
def State.writeClk (r : ClkRec) (s : State) : State := { s.deliver (.clk r) with clk := s.clk.update r }

/-! ## The input spaces -/

/-- R53: what the atomic take leaves: the slot with `full` cleared. The values taken are those of the slot before. -/
def State.takeSlot (s : State) : State := { s with slot := { s.slot with full := false } }

/-- R57: `MemRead(KDATE, 1)`, a read with no side effect. -/
def State.readKDate (s : State) : KDate := s.kdate

/-! ## FailureRecovery -/

/-- R33, R240: `ds` at `WAIT`, the accumulators and both flags zero. -/
def State.clearFrame (s : State) : State :=
  { s with ds := 0, xMin := 0, xHour := 0, xDay := 0, xMonth := 0, xYear := 0, par := false, ci := false }

/-- R240, R255: `Fail(kind)`. The kind is recorded nowhere and changes nothing (R251). -/
def failRecovery (_kind : FailKind) (s : State) : State := s.clearFrame.emit .onReadFailed 0

/-- R130, R256: `AcceptStartMarker`, after which decoding goes on from the first bit-position. -/
def acceptStartMarker (s : State) : State := (s.setDs 1).emit .onReadStarted 0

/-! ## The other agents -/

/-- R56: a duration longer than 32767 ms is delivered as 32767. -/
def saturateDur (ms : Nat) : Dur := if 32767 ≤ ms then 32767 else BitVec.ofNat 15 ms

/-- R52: the capture write, whatever the slot held. -/
def State.captureWrite (l : Level) (d : Dur) (s : State) : State :=
  { s with slot := { full := true, level := l, dur := d } }

/-- R59, R296: another agent's write of the whole clock state. -/
def State.setClk (c : Clk) (s : State) : State := { s with clk := c }

/-- R57: a new known date. -/
def State.setKDate (k : KDate) (s : State) : State := { s with kdate := k }

/-- R280: reset. Nothing is delivered, `clk` and the known date keep what they held (R281), and so do the unspecified
parts of the slot (DESIGN CHOICE, log 8). -/
def State.applyReset (s : State) : State := s.clearFrame.takeSlot

/-! ## Presenting an instruction -/

/-- An event word in the mailbox, with the poll that takes it next (log 4). -/
def presentEvent (w : EvWord) (s : State) : State :=
  { s.captureWrite w.level w.dur with agenda := .poll :: s.agenda }

/-- R101: the word `BIT0` or `BIT1` of a bit. -/
def bitDur (b : Bool) : Dur := if b then 200 else 100

/-- A position in `ds` and its bit in the mailbox, with the poll that takes it next (log 4). -/
def presentPosition (c : Code) (b : Bool) (s : State) : State :=
  { (s.setDs c).captureWrite .high (bitDur b) with agenda := .poll :: s.agenda }

/-- The instruction of a table word, put where the next step fetches it. -/
def presentTableWord (nbits w : Nat) (s : State) : State :=
  if nbits = 16 then presentEvent (BitVec.ofNat 16 w) s
  else presentPosition (BitVec.ofNat 6 (w % 64)) (w.testBit 6) s

end Sys2Proof.Machine
end

