-- ==== Sys2Proof/Machine/Flags.lean ====
section
/-! DEFINITION. The flag computations: the rolling parity flag (R12, R26) and CommitIntent (R27). -/

namespace Sys2Proof.Machine

/-- R12, R26: `par <- par xor b`. -/
def State.xorPar (b : Bool) (s : State) : State := { s with par := s.par ^^ b }

/-- R12, R136: the transmitted parity bit equals the accumulated parity. -/
def State.parityMatches (b : Bool) (s : State) : Bool := s.par == b

/-- R26, R136: `par <- 0`. -/
def State.clearPar (s : State) : State := { s with par := false }

/-- R27, R176: `ci <- 1`. -/
def State.setIntent (s : State) : State := { s with ci := true }

/-- R27, R229: `ci <- 0`. -/
def State.clearIntent (s : State) : State := { s with ci := false }

end Sys2Proof.Machine
end

