-- ==== Sys2Proof/Machine/Operands.lean ====
section
/-! DEFINITION. The position table as data (R84 to R87), the weights of a field (R88), and the accumulation of one weighted
bit (R9, R134). -/

namespace Sys2Proof.Machine

/-! ## Codes -/

/-- R85: `WAIT` = 0. -/
def codeWait : Code := 0
/-- R85: `Bk` = k + 1. -/
def codeB (k : Nat) : Code := BitVec.ofNat 6 (k + 1)
/-- R85: `SPARE` = 60. -/
def codeSpare : Code := 60

/-! ## Accumulation -/

/-- R9, R134: add the weight when the bit is 1; the sum wraps modulo 256. -/
def addWeight (f : Field) (w : Val) (b : Bool) (s : State) : State :=
  if b then s.setX f (s.getX f + w) else s

/-- R88: the ordered weights. -/
def weightList : List Nat := [1, 2, 4, 8, 10, 20, 40, 80]

/-- R88: the value of a field, the sum of the weights of its bits that are 1, first transmitted bit first. -/
def fieldValue (bits : List Bool) : Nat :=
  ((bits.zip weightList).map fun p => if p.1 then p.2 else 0).sum

/-! ## The position table -/

/-- R87: the class of a position. -/
inductive PosClass where
  | wait
  | ignorable
  | fixed
  | weighted
  | discarded
  | parity
  | spare
deriving DecidableEq, Repr

/-- R87: the parity domains P1 (minute), P2 (hour), P3 (date). -/
inductive Domain where
  | p1
  | p2
  | p3
deriving DecidableEq, Repr

/-- R87: a row of the position table: its frame bit, class, field, weight, domain and successor. -/
structure Descriptor where
  frameBit : Option Nat
  cls : PosClass
  field : Option Field
  weight : Option Val
  domain : Option Domain
  nxt : Option Code
deriving DecidableEq, Repr

/-- R86: codes 0 to 21: `WAIT`, the ignorable bits and the start-bit. -/
def rowsLeading : List Descriptor :=
  [ ⟨none, .wait, none, none, none, none⟩
  , ⟨some 0, .ignorable, none, none, none, some (codeB 1)⟩
  , ⟨some 1, .ignorable, none, none, none, some (codeB 2)⟩
  , ⟨some 2, .ignorable, none, none, none, some (codeB 3)⟩
  , ⟨some 3, .ignorable, none, none, none, some (codeB 4)⟩
  , ⟨some 4, .ignorable, none, none, none, some (codeB 5)⟩
  , ⟨some 5, .ignorable, none, none, none, some (codeB 6)⟩
  , ⟨some 6, .ignorable, none, none, none, some (codeB 7)⟩
  , ⟨some 7, .ignorable, none, none, none, some (codeB 8)⟩
  , ⟨some 8, .ignorable, none, none, none, some (codeB 9)⟩
  , ⟨some 9, .ignorable, none, none, none, some (codeB 10)⟩
  , ⟨some 10, .ignorable, none, none, none, some (codeB 11)⟩
  , ⟨some 11, .ignorable, none, none, none, some (codeB 12)⟩
  , ⟨some 12, .ignorable, none, none, none, some (codeB 13)⟩
  , ⟨some 13, .ignorable, none, none, none, some (codeB 14)⟩
  , ⟨some 14, .ignorable, none, none, none, some (codeB 15)⟩
  , ⟨some 15, .ignorable, none, none, none, some (codeB 16)⟩
  , ⟨some 16, .ignorable, none, none, none, some (codeB 17)⟩
  , ⟨some 17, .ignorable, none, none, none, some (codeB 18)⟩
  , ⟨some 18, .ignorable, none, none, none, some (codeB 19)⟩
  , ⟨some 19, .ignorable, none, none, none, some (codeB 20)⟩
  , ⟨some 20, .fixed, none, none, none, some (codeB 21)⟩ ]

/-- R86: codes 22 to 29: the minute and its parity bit. -/
def rowsMinute : List Descriptor :=
  [ ⟨some 21, .weighted, some .min, some 1, some .p1, some (codeB 22)⟩
  , ⟨some 22, .weighted, some .min, some 2, some .p1, some (codeB 23)⟩
  , ⟨some 23, .weighted, some .min, some 4, some .p1, some (codeB 24)⟩
  , ⟨some 24, .weighted, some .min, some 8, some .p1, some (codeB 25)⟩
  , ⟨some 25, .weighted, some .min, some 10, some .p1, some (codeB 26)⟩
  , ⟨some 26, .weighted, some .min, some 20, some .p1, some (codeB 27)⟩
  , ⟨some 27, .weighted, some .min, some 40, some .p1, some (codeB 28)⟩
  , ⟨some 28, .parity, none, none, some .p1, some (codeB 29)⟩ ]

/-- R86: codes 30 to 36: the hour and its parity bit. -/
def rowsHour : List Descriptor :=
  [ ⟨some 29, .weighted, some .hour, some 1, some .p2, some (codeB 30)⟩
  , ⟨some 30, .weighted, some .hour, some 2, some .p2, some (codeB 31)⟩
  , ⟨some 31, .weighted, some .hour, some 4, some .p2, some (codeB 32)⟩
  , ⟨some 32, .weighted, some .hour, some 8, some .p2, some (codeB 33)⟩
  , ⟨some 33, .weighted, some .hour, some 10, some .p2, some (codeB 34)⟩
  , ⟨some 34, .weighted, some .hour, some 20, some .p2, some (codeB 35)⟩
  , ⟨some 35, .parity, none, none, some .p2, some (codeB 36)⟩ ]

/-- R86: codes 37 to 45: the day and the day of week. -/
def rowsDay : List Descriptor :=
  [ ⟨some 36, .weighted, some .day, some 1, some .p3, some (codeB 37)⟩
  , ⟨some 37, .weighted, some .day, some 2, some .p3, some (codeB 38)⟩
  , ⟨some 38, .weighted, some .day, some 4, some .p3, some (codeB 39)⟩
  , ⟨some 39, .weighted, some .day, some 8, some .p3, some (codeB 40)⟩
  , ⟨some 40, .weighted, some .day, some 10, some .p3, some (codeB 41)⟩
  , ⟨some 41, .weighted, some .day, some 20, some .p3, some (codeB 42)⟩
  , ⟨some 42, .discarded, none, none, some .p3, some (codeB 43)⟩
  , ⟨some 43, .discarded, none, none, some .p3, some (codeB 44)⟩
  , ⟨some 44, .discarded, none, none, some .p3, some (codeB 45)⟩ ]

/-- R86: codes 46 to 60: the month, the year, the date-parity bit and `SPARE`. -/
def rowsMonthYear : List Descriptor :=
  [ ⟨some 45, .weighted, some .month, some 1, some .p3, some (codeB 46)⟩
  , ⟨some 46, .weighted, some .month, some 2, some .p3, some (codeB 47)⟩
  , ⟨some 47, .weighted, some .month, some 4, some .p3, some (codeB 48)⟩
  , ⟨some 48, .weighted, some .month, some 8, some .p3, some (codeB 49)⟩
  , ⟨some 49, .weighted, some .month, some 10, some .p3, some (codeB 50)⟩
  , ⟨some 50, .weighted, some .year, some 1, some .p3, some (codeB 51)⟩
  , ⟨some 51, .weighted, some .year, some 2, some .p3, some (codeB 52)⟩
  , ⟨some 52, .weighted, some .year, some 4, some .p3, some (codeB 53)⟩
  , ⟨some 53, .weighted, some .year, some 8, some .p3, some (codeB 54)⟩
  , ⟨some 54, .weighted, some .year, some 10, some .p3, some (codeB 55)⟩
  , ⟨some 55, .weighted, some .year, some 20, some .p3, some (codeB 56)⟩
  , ⟨some 56, .weighted, some .year, some 40, some .p3, some (codeB 57)⟩
  , ⟨some 57, .weighted, some .year, some 80, some .p3, some (codeB 58)⟩
  , ⟨some 58, .parity, none, none, some .p3, some codeWait⟩
  , ⟨none, .spare, none, none, none, none⟩ ]

/-- R86: the hardwired table, one row per member of DecodeState, in code order. -/
def positionTable : List Descriptor :=
  rowsLeading ++ rowsMinute ++ rowsHour ++ rowsDay ++ rowsMonthYear

/-- R86: the row of a code; codes 61 to 63 have none. -/
def descriptor (c : Code) : Option Descriptor := positionTable[c.toNat]?

end Sys2Proof.Machine
end

