-- ==== Sys2Proof/Machine/FrameStateMachine.lean ====
section
/-! DEFINITION. The FrameStateMachine (41_frame_state_machine.md): one operation per position class, one meaning per
position, and `AcceptBit`, which runs the meaning of the position in `ds`. -/

namespace Sys2Proof.Machine

/-! ## The class rules -/

/-- R132: the bit is discarded, the state advances. -/
def acceptIgnorable (nxt : Code) (_b : Bool) (s : State) : State := s.setDs nxt

/-- R133: the bit must be 1. -/
def acceptFixed (nxt : Code) (b : Bool) (s : State) : State :=
  if b then s.setDs nxt else failRecovery .structural s

/-- R134: add the weight when the bit is 1, XOR the bit into `par`, advance. -/
def acceptWeighted (f : Field) (w : Val) (nxt : Code) (b : Bool) (s : State) : State :=
  ((addWeight f w b s).xorPar b).setDs nxt

/-- R135: XOR into `par` only, advance. -/
def acceptDiscarded (nxt : Code) (b : Bool) (s : State) : State := (s.xorPar b).setDs nxt

/-- R136: compare `par` with the bit; on a match clear `par` and advance. -/
def acceptParity (nxt : Code) (b : Bool) (s : State) : State :=
  if s.parityMatches b then s.clearPar.setDs nxt else failRecovery .checksum s

/-- R136, R176: the hour-parity check also sets `ci` on a match. -/
def acceptHourParity (nxt : Code) (b : Bool) (s : State) : State :=
  if s.parityMatches b then (s.clearPar.setIntent).setDs nxt else failRecovery .checksum s

/-- R137: the bit is ignored. -/
def acceptWait (_b : Bool) (s : State) : State := s

/-- R200, R201: the defensive fallback. -/
def acceptUnexpected (_b : Bool) (s : State) : State := failRecovery .invalidState s

/-! ## The position rules -/

/-- R140: `WAIT` (code 0), the initial (wait-for-start) position. -/
def execPosWait (b : Bool) (s : State) : Result := .next (acceptWait b s)

/-- R141: `B0` (code 1), frame bit 0, ignorable. -/
def execPosB0 (b : Bool) (s : State) : Result := .next (acceptIgnorable (codeB 1) b s)

/-- R142: `B1` (code 2), frame bit 1, ignorable. -/
def execPosB1 (b : Bool) (s : State) : Result := .next (acceptIgnorable (codeB 2) b s)

/-- R143: `B2` (code 3), frame bit 2, ignorable. -/
def execPosB2 (b : Bool) (s : State) : Result := .next (acceptIgnorable (codeB 3) b s)

/-- R144: `B3` (code 4), frame bit 3, ignorable. -/
def execPosB3 (b : Bool) (s : State) : Result := .next (acceptIgnorable (codeB 4) b s)

/-- R145: `B4` (code 5), frame bit 4, ignorable. -/
def execPosB4 (b : Bool) (s : State) : Result := .next (acceptIgnorable (codeB 5) b s)

/-- R146: `B5` (code 6), frame bit 5, ignorable. -/
def execPosB5 (b : Bool) (s : State) : Result := .next (acceptIgnorable (codeB 6) b s)

/-- R147: `B6` (code 7), frame bit 6, ignorable. -/
def execPosB6 (b : Bool) (s : State) : Result := .next (acceptIgnorable (codeB 7) b s)

/-- R148: `B7` (code 8), frame bit 7, ignorable. -/
def execPosB7 (b : Bool) (s : State) : Result := .next (acceptIgnorable (codeB 8) b s)

/-- R149: `B8` (code 9), frame bit 8, ignorable. -/
def execPosB8 (b : Bool) (s : State) : Result := .next (acceptIgnorable (codeB 9) b s)

/-- R150: `B9` (code 10), frame bit 9, ignorable. -/
def execPosB9 (b : Bool) (s : State) : Result := .next (acceptIgnorable (codeB 10) b s)

/-- R151: `B10` (code 11), frame bit 10, ignorable. -/
def execPosB10 (b : Bool) (s : State) : Result := .next (acceptIgnorable (codeB 11) b s)

/-- R152: `B11` (code 12), frame bit 11, ignorable. -/
def execPosB11 (b : Bool) (s : State) : Result := .next (acceptIgnorable (codeB 12) b s)

/-- R153: `B12` (code 13), frame bit 12, ignorable. -/
def execPosB12 (b : Bool) (s : State) : Result := .next (acceptIgnorable (codeB 13) b s)

/-- R154: `B13` (code 14), frame bit 13, ignorable. -/
def execPosB13 (b : Bool) (s : State) : Result := .next (acceptIgnorable (codeB 14) b s)

/-- R155: `B14` (code 15), frame bit 14, ignorable. -/
def execPosB14 (b : Bool) (s : State) : Result := .next (acceptIgnorable (codeB 15) b s)

/-- R156: `B15` (code 16), frame bit 15, ignorable. -/
def execPosB15 (b : Bool) (s : State) : Result := .next (acceptIgnorable (codeB 16) b s)

/-- R157: `B16` (code 17), frame bit 16, ignorable. -/
def execPosB16 (b : Bool) (s : State) : Result := .next (acceptIgnorable (codeB 17) b s)

/-- R158: `B17` (code 18), frame bit 17, ignorable. -/
def execPosB17 (b : Bool) (s : State) : Result := .next (acceptIgnorable (codeB 18) b s)

/-- R159: `B18` (code 19), frame bit 18, ignorable. -/
def execPosB18 (b : Bool) (s : State) : Result := .next (acceptIgnorable (codeB 19) b s)

/-- R160: `B19` (code 20), frame bit 19, ignorable. -/
def execPosB19 (b : Bool) (s : State) : Result := .next (acceptIgnorable (codeB 20) b s)

/-- R161: `B20` (code 21), frame bit 20, the mandatory start-bit. -/
def execPosB20 (b : Bool) (s : State) : Result := .next (acceptFixed (codeB 21) b s)

/-- R162: `B21` (code 22), frame bit 21, weight 1 of `x[MIN]`, domain P1. -/
def execPosB21 (b : Bool) (s : State) : Result := .next (acceptWeighted .min 1 (codeB 22) b s)

/-- R163: `B22` (code 23), frame bit 22, weight 2 of `x[MIN]`, domain P1. -/
def execPosB22 (b : Bool) (s : State) : Result := .next (acceptWeighted .min 2 (codeB 23) b s)

/-- R164: `B23` (code 24), frame bit 23, weight 4 of `x[MIN]`, domain P1. -/
def execPosB23 (b : Bool) (s : State) : Result := .next (acceptWeighted .min 4 (codeB 24) b s)

/-- R165: `B24` (code 25), frame bit 24, weight 8 of `x[MIN]`, domain P1. -/
def execPosB24 (b : Bool) (s : State) : Result := .next (acceptWeighted .min 8 (codeB 25) b s)

/-- R166: `B25` (code 26), frame bit 25, weight 10 of `x[MIN]`, domain P1. -/
def execPosB25 (b : Bool) (s : State) : Result := .next (acceptWeighted .min 10 (codeB 26) b s)

/-- R167: `B26` (code 27), frame bit 26, weight 20 of `x[MIN]`, domain P1. -/
def execPosB26 (b : Bool) (s : State) : Result := .next (acceptWeighted .min 20 (codeB 27) b s)

/-- R168: `B27` (code 28), frame bit 27, weight 40 of `x[MIN]`, domain P1. -/
def execPosB27 (b : Bool) (s : State) : Result := .next (acceptWeighted .min 40 (codeB 28) b s)

/-- R169: `B28` (code 29), frame bit 28, the parity bit of P1. -/
def execPosB28 (b : Bool) (s : State) : Result := .next (acceptParity (codeB 29) b s)

/-- R170: `B29` (code 30), frame bit 29, weight 1 of `x[HOUR]`, domain P2. -/
def execPosB29 (b : Bool) (s : State) : Result := .next (acceptWeighted .hour 1 (codeB 30) b s)

/-- R171: `B30` (code 31), frame bit 30, weight 2 of `x[HOUR]`, domain P2. -/
def execPosB30 (b : Bool) (s : State) : Result := .next (acceptWeighted .hour 2 (codeB 31) b s)

/-- R172: `B31` (code 32), frame bit 31, weight 4 of `x[HOUR]`, domain P2. -/
def execPosB31 (b : Bool) (s : State) : Result := .next (acceptWeighted .hour 4 (codeB 32) b s)

/-- R173: `B32` (code 33), frame bit 32, weight 8 of `x[HOUR]`, domain P2. -/
def execPosB32 (b : Bool) (s : State) : Result := .next (acceptWeighted .hour 8 (codeB 33) b s)

/-- R174: `B33` (code 34), frame bit 33, weight 10 of `x[HOUR]`, domain P2. -/
def execPosB33 (b : Bool) (s : State) : Result := .next (acceptWeighted .hour 10 (codeB 34) b s)

/-- R175: `B34` (code 35), frame bit 34, weight 20 of `x[HOUR]`, domain P2. -/
def execPosB34 (b : Bool) (s : State) : Result := .next (acceptWeighted .hour 20 (codeB 35) b s)

/-- R176: `B35` (code 36), frame bit 35, the parity bit of P2. -/
def execPosB35 (b : Bool) (s : State) : Result := .next (acceptHourParity (codeB 36) b s)

/-- R177: `B36` (code 37), frame bit 36, weight 1 of `x[DAY]`, domain P3. -/
def execPosB36 (b : Bool) (s : State) : Result := .next (acceptWeighted .day 1 (codeB 37) b s)

/-- R178: `B37` (code 38), frame bit 37, weight 2 of `x[DAY]`, domain P3. -/
def execPosB37 (b : Bool) (s : State) : Result := .next (acceptWeighted .day 2 (codeB 38) b s)

/-- R179: `B38` (code 39), frame bit 38, weight 4 of `x[DAY]`, domain P3. -/
def execPosB38 (b : Bool) (s : State) : Result := .next (acceptWeighted .day 4 (codeB 39) b s)

/-- R180: `B39` (code 40), frame bit 39, weight 8 of `x[DAY]`, domain P3. -/
def execPosB39 (b : Bool) (s : State) : Result := .next (acceptWeighted .day 8 (codeB 40) b s)

/-- R181: `B40` (code 41), frame bit 40, weight 10 of `x[DAY]`, domain P3. -/
def execPosB40 (b : Bool) (s : State) : Result := .next (acceptWeighted .day 10 (codeB 41) b s)

/-- R182: `B41` (code 42), frame bit 41, weight 20 of `x[DAY]`, domain P3. -/
def execPosB41 (b : Bool) (s : State) : Result := .next (acceptWeighted .day 20 (codeB 42) b s)

/-- R183: `B42` (code 43), frame bit 42, a day-of-week bit. -/
def execPosB42 (b : Bool) (s : State) : Result := .next (acceptDiscarded (codeB 43) b s)

/-- R184: `B43` (code 44), frame bit 43, a day-of-week bit. -/
def execPosB43 (b : Bool) (s : State) : Result := .next (acceptDiscarded (codeB 44) b s)

/-- R185: `B44` (code 45), frame bit 44, a day-of-week bit. -/
def execPosB44 (b : Bool) (s : State) : Result := .next (acceptDiscarded (codeB 45) b s)

/-- R186: `B45` (code 46), frame bit 45, weight 1 of `x[MONTH]`, domain P3. -/
def execPosB45 (b : Bool) (s : State) : Result := .next (acceptWeighted .month 1 (codeB 46) b s)

/-- R187: `B46` (code 47), frame bit 46, weight 2 of `x[MONTH]`, domain P3. -/
def execPosB46 (b : Bool) (s : State) : Result := .next (acceptWeighted .month 2 (codeB 47) b s)

/-- R188: `B47` (code 48), frame bit 47, weight 4 of `x[MONTH]`, domain P3. -/
def execPosB47 (b : Bool) (s : State) : Result := .next (acceptWeighted .month 4 (codeB 48) b s)

/-- R189: `B48` (code 49), frame bit 48, weight 8 of `x[MONTH]`, domain P3. -/
def execPosB48 (b : Bool) (s : State) : Result := .next (acceptWeighted .month 8 (codeB 49) b s)

/-- R190: `B49` (code 50), frame bit 49, weight 10 of `x[MONTH]`, domain P3. -/
def execPosB49 (b : Bool) (s : State) : Result := .next (acceptWeighted .month 10 (codeB 50) b s)

/-- R191: `B50` (code 51), frame bit 50, weight 1 of `x[YEAR]`, domain P3. -/
def execPosB50 (b : Bool) (s : State) : Result := .next (acceptWeighted .year 1 (codeB 51) b s)

/-- R192: `B51` (code 52), frame bit 51, weight 2 of `x[YEAR]`, domain P3. -/
def execPosB51 (b : Bool) (s : State) : Result := .next (acceptWeighted .year 2 (codeB 52) b s)

/-- R193: `B52` (code 53), frame bit 52, weight 4 of `x[YEAR]`, domain P3. -/
def execPosB52 (b : Bool) (s : State) : Result := .next (acceptWeighted .year 4 (codeB 53) b s)

/-- R194: `B53` (code 54), frame bit 53, weight 8 of `x[YEAR]`, domain P3. -/
def execPosB53 (b : Bool) (s : State) : Result := .next (acceptWeighted .year 8 (codeB 54) b s)

/-- R195: `B54` (code 55), frame bit 54, weight 10 of `x[YEAR]`, domain P3. -/
def execPosB54 (b : Bool) (s : State) : Result := .next (acceptWeighted .year 10 (codeB 55) b s)

/-- R196: `B55` (code 56), frame bit 55, weight 20 of `x[YEAR]`, domain P3. -/
def execPosB55 (b : Bool) (s : State) : Result := .next (acceptWeighted .year 20 (codeB 56) b s)

/-- R197: `B56` (code 57), frame bit 56, weight 40 of `x[YEAR]`, domain P3. -/
def execPosB56 (b : Bool) (s : State) : Result := .next (acceptWeighted .year 40 (codeB 57) b s)

/-- R198: `B57` (code 58), frame bit 57, weight 80 of `x[YEAR]`, domain P3. -/
def execPosB57 (b : Bool) (s : State) : Result := .next (acceptWeighted .year 80 (codeB 58) b s)

/-- R199: `B58` (code 59), frame bit 58, the parity bit of P3. -/
def execPosB58 (b : Bool) (s : State) : Result := .next (acceptParity codeWait b s)

/-- R200: `SPARE` (code 60), the 61st member. -/
def execPosSpare (b : Bool) (s : State) : Result := .next (acceptUnexpected b s)

/-- R201: `UNDEF61` (code 61), not a member of the enumeration. -/
def execPosUndef61 (b : Bool) (s : State) : Result := .next (acceptUnexpected b s)

/-- R201: `UNDEF62` (code 62), not a member of the enumeration. -/
def execPosUndef62 (b : Bool) (s : State) : Result := .next (acceptUnexpected b s)

/-- R201: `UNDEF63` (code 63), not a member of the enumeration. -/
def execPosUndef63 (b : Bool) (s : State) : Result := .next (acceptUnexpected b s)

/-! ## AcceptBit -/

/-- R131: the rule of the position with code `c`. -/
def acceptAt (c : Code) (b : Bool) (s : State) : Result :=
  match c.toNat with
  | 0 => execPosWait b s
  | 1 => execPosB0 b s
  | 2 => execPosB1 b s
  | 3 => execPosB2 b s
  | 4 => execPosB3 b s
  | 5 => execPosB4 b s
  | 6 => execPosB5 b s
  | 7 => execPosB6 b s
  | 8 => execPosB7 b s
  | 9 => execPosB8 b s
  | 10 => execPosB9 b s
  | 11 => execPosB10 b s
  | 12 => execPosB11 b s
  | 13 => execPosB12 b s
  | 14 => execPosB13 b s
  | 15 => execPosB14 b s
  | 16 => execPosB15 b s
  | 17 => execPosB16 b s
  | 18 => execPosB17 b s
  | 19 => execPosB18 b s
  | 20 => execPosB19 b s
  | 21 => execPosB20 b s
  | 22 => execPosB21 b s
  | 23 => execPosB22 b s
  | 24 => execPosB23 b s
  | 25 => execPosB24 b s
  | 26 => execPosB25 b s
  | 27 => execPosB26 b s
  | 28 => execPosB27 b s
  | 29 => execPosB28 b s
  | 30 => execPosB29 b s
  | 31 => execPosB30 b s
  | 32 => execPosB31 b s
  | 33 => execPosB32 b s
  | 34 => execPosB33 b s
  | 35 => execPosB34 b s
  | 36 => execPosB35 b s
  | 37 => execPosB36 b s
  | 38 => execPosB37 b s
  | 39 => execPosB38 b s
  | 40 => execPosB39 b s
  | 41 => execPosB40 b s
  | 42 => execPosB41 b s
  | 43 => execPosB42 b s
  | 44 => execPosB43 b s
  | 45 => execPosB44 b s
  | 46 => execPosB45 b s
  | 47 => execPosB46 b s
  | 48 => execPosB47 b s
  | 49 => execPosB48 b s
  | 50 => execPosB49 b s
  | 51 => execPosB50 b s
  | 52 => execPosB51 b s
  | 53 => execPosB52 b s
  | 54 => execPosB53 b s
  | 55 => execPosB54 b s
  | 56 => execPosB55 b s
  | 57 => execPosB56 b s
  | 58 => execPosB57 b s
  | 59 => execPosB58 b s
  | 60 => execPosSpare b s
  | 61 => execPosUndef61 b s
  | 62 => execPosUndef62 b s
  | _ => execPosUndef63 b s

/-- R131: `AcceptBit(b)` runs the rule of the position that `ds` holds. -/
def acceptBit (b : Bool) (s : State) : Result := acceptAt s.ds b s

end Sys2Proof.Machine
end

