-- ==== Sys2Proof/Machine/CommitScheduler.lean ====
section
/-! DEFINITION. The CommitScheduler (42_commit_scheduler.md): the steps of `Commit`, then the operation. -/

namespace Sys2Proof.Machine

/-- R6: the seconds value of every RTC and clock-state write. -/
def secConst : Val := 36

/-- R221: step 1, a date was decoded. -/
def dateDecoded (s : State) : Bool := s.xDay != 0 || s.xMonth != 0 || s.xYear != 0

/-- R10, R223: step 2, the (minute, hour) one minute earlier. -/
def correctTime (minute hour : Val) : Val × Val :=
  if minute = 0 then (59, if hour = 0 then 23 else hour - 1) else (minute - 1, hour)

/-- R225: step 3, the midnight rule fires; which pair it tests is the parameter `MIDNIGHT_RULE`. -/
def midnightFires (rule : MidnightRule) (minute hour : Val) : Bool :=
  match rule with
  | .corrected => (correctTime minute hour).1 == 0 && (correctTime minute hour).2 == 0
  | .decoded => minute == 0 && hour == 0

/-- R221, R225: date-commit. -/
def dateCommit (s : State) : Bool := dateDecoded s && !midnightFires s.midnightRule s.xMin s.xHour

/-- R226, R227: the record of step 4; the weekday is the known date's. -/
def commitRecord (s : State) : RtcRec where
  second := secConst
  minute := (correctTime s.xMin s.xHour).1
  hour := (correctTime s.xMin s.xHour).2
  weekday := s.readKDate.weekday
  day := if dateCommit s then s.xDay else s.readKDate.day
  month := if dateCommit s then s.xMonth else s.readKDate.month
  year := if dateCommit s then s.xYear else s.readKDate.year

/-- R228: the record of step 5, the mirror of an RTC record. -/
def mirrorRecord (dateOk : Bool) (r : RtcRec) : ClkRec where
  dateWe := dateOk
  sec := r.second
  min := r.minute
  hour := r.hour
  day := r.day
  month := r.month
  year := r.year

/-- R229: step 6 clears the five accumulators; `par` and `ds` are not written. -/
def clearAccumulators (s : State) : State :=
  { s with xMin := 0, xHour := 0, xDay := 0, xMonth := 0, xYear := 0 }

/-- R220: `Commit()`. -/
def commit (s : State) : State :=
  let r := commitRecord s
  let written := (s.writeRtc r).writeClk (mirrorRecord (dateCommit s) r)
  (clearAccumulators written).clearIntent.emit .onSignalCommitted 0

/-- R116: the commit check of every low event. -/
def commitCheck (s : State) : State := if s.ci then commit s else s

end Sys2Proof.Machine
end

