-- ==== Sys2Proof/Machine/PulseClassifier.lean ====
section
/-! DEFINITION. The five event-word operations (40_pulse_classifier.md R111 to R115), which `ProcessHigh` (R117) and
`ProcessLow` (R116) run. -/

namespace Sys2Proof.Machine

/-- R111: `emit ON_ZERO(dur); AcceptBit(0)`. -/
def execHighZero (dur : Dur) (s : State) : Result := acceptBit false (s.emit .onZero dur)

/-- R112: `emit ON_ONE(dur); AcceptBit(1)`. -/
def execHighOne (dur : Dur) (s : State) : Result := acceptBit true (s.emit .onOne dur)

/-- R113: `emit ON_INVALID(dur); raise Fail(PULSE_TIMING)`. -/
def execHighInvalid (dur : Dur) (s : State) : Result := .next (failRecovery .pulseTiming (s.emit .onInvalid dur))

/-- R114: `emit ON_START(dur); AcceptStartMarker(); if ci = 1 then Commit()`. -/
def execLowStart (dur : Dur) (s : State) : Result := .next (commitCheck (acceptStartMarker (s.emit .onStart dur)))

/-- R115: `if ci = 1 then Commit()`; no event is emitted for an ordinary low duration. -/
def execLowOrdinary (_dur : Dur) (s : State) : Result := .next (commitCheck s)

end Sys2Proof.Machine
end

