-- ==== Sys2Proof/Machine/Dispatch.lean ====
section
/-! DEFINITION. One arm per operation of the opcode table. -/

namespace Sys2Proof.Machine

def exec (i : Instr) (s : State) : Host.Outcome State Fault Refusal :=
  match i with
  | .highZero dur => Sys2Proof.Machine.execHighZero dur s
  | .highOne dur => Sys2Proof.Machine.execHighOne dur s
  | .highInvalid dur => Sys2Proof.Machine.execHighInvalid dur s
  | .lowStart dur => Sys2Proof.Machine.execLowStart dur s
  | .lowOrdinary dur => Sys2Proof.Machine.execLowOrdinary dur s
  | .posWait b => Sys2Proof.Machine.execPosWait b s
  | .posB0 b => Sys2Proof.Machine.execPosB0 b s
  | .posB1 b => Sys2Proof.Machine.execPosB1 b s
  | .posB2 b => Sys2Proof.Machine.execPosB2 b s
  | .posB3 b => Sys2Proof.Machine.execPosB3 b s
  | .posB4 b => Sys2Proof.Machine.execPosB4 b s
  | .posB5 b => Sys2Proof.Machine.execPosB5 b s
  | .posB6 b => Sys2Proof.Machine.execPosB6 b s
  | .posB7 b => Sys2Proof.Machine.execPosB7 b s
  | .posB8 b => Sys2Proof.Machine.execPosB8 b s
  | .posB9 b => Sys2Proof.Machine.execPosB9 b s
  | .posB10 b => Sys2Proof.Machine.execPosB10 b s
  | .posB11 b => Sys2Proof.Machine.execPosB11 b s
  | .posB12 b => Sys2Proof.Machine.execPosB12 b s
  | .posB13 b => Sys2Proof.Machine.execPosB13 b s
  | .posB14 b => Sys2Proof.Machine.execPosB14 b s
  | .posB15 b => Sys2Proof.Machine.execPosB15 b s
  | .posB16 b => Sys2Proof.Machine.execPosB16 b s
  | .posB17 b => Sys2Proof.Machine.execPosB17 b s
  | .posB18 b => Sys2Proof.Machine.execPosB18 b s
  | .posB19 b => Sys2Proof.Machine.execPosB19 b s
  | .posB20 b => Sys2Proof.Machine.execPosB20 b s
  | .posB21 b => Sys2Proof.Machine.execPosB21 b s
  | .posB22 b => Sys2Proof.Machine.execPosB22 b s
  | .posB23 b => Sys2Proof.Machine.execPosB23 b s
  | .posB24 b => Sys2Proof.Machine.execPosB24 b s
  | .posB25 b => Sys2Proof.Machine.execPosB25 b s
  | .posB26 b => Sys2Proof.Machine.execPosB26 b s
  | .posB27 b => Sys2Proof.Machine.execPosB27 b s
  | .posB28 b => Sys2Proof.Machine.execPosB28 b s
  | .posB29 b => Sys2Proof.Machine.execPosB29 b s
  | .posB30 b => Sys2Proof.Machine.execPosB30 b s
  | .posB31 b => Sys2Proof.Machine.execPosB31 b s
  | .posB32 b => Sys2Proof.Machine.execPosB32 b s
  | .posB33 b => Sys2Proof.Machine.execPosB33 b s
  | .posB34 b => Sys2Proof.Machine.execPosB34 b s
  | .posB35 b => Sys2Proof.Machine.execPosB35 b s
  | .posB36 b => Sys2Proof.Machine.execPosB36 b s
  | .posB37 b => Sys2Proof.Machine.execPosB37 b s
  | .posB38 b => Sys2Proof.Machine.execPosB38 b s
  | .posB39 b => Sys2Proof.Machine.execPosB39 b s
  | .posB40 b => Sys2Proof.Machine.execPosB40 b s
  | .posB41 b => Sys2Proof.Machine.execPosB41 b s
  | .posB42 b => Sys2Proof.Machine.execPosB42 b s
  | .posB43 b => Sys2Proof.Machine.execPosB43 b s
  | .posB44 b => Sys2Proof.Machine.execPosB44 b s
  | .posB45 b => Sys2Proof.Machine.execPosB45 b s
  | .posB46 b => Sys2Proof.Machine.execPosB46 b s
  | .posB47 b => Sys2Proof.Machine.execPosB47 b s
  | .posB48 b => Sys2Proof.Machine.execPosB48 b s
  | .posB49 b => Sys2Proof.Machine.execPosB49 b s
  | .posB50 b => Sys2Proof.Machine.execPosB50 b s
  | .posB51 b => Sys2Proof.Machine.execPosB51 b s
  | .posB52 b => Sys2Proof.Machine.execPosB52 b s
  | .posB53 b => Sys2Proof.Machine.execPosB53 b s
  | .posB54 b => Sys2Proof.Machine.execPosB54 b s
  | .posB55 b => Sys2Proof.Machine.execPosB55 b s
  | .posB56 b => Sys2Proof.Machine.execPosB56 b s
  | .posB57 b => Sys2Proof.Machine.execPosB57 b s
  | .posB58 b => Sys2Proof.Machine.execPosB58 b s
  | .posSpare b => Sys2Proof.Machine.execPosSpare b s
  | .posUndef61 b => Sys2Proof.Machine.execPosUndef61 b s
  | .posUndef62 b => Sys2Proof.Machine.execPosUndef62 b s
  | .posUndef63 b => Sys2Proof.Machine.execPosUndef63 b s

end Sys2Proof.Machine
end

