-- ==== Sys2Proof/Machine/Poll.lean ====
section
/-! DEFINITION. `Poll` (R110) and the step of one agent (R51). -/

namespace Sys2Proof.Machine

/-- R110: take the event, if there is one, and run the operation it selects; with an empty mailbox nothing happens. -/
def poll (s : State) : Result :=
  if s.slot.full then exec (decodeEvent s.slot.level s.slot.dur) s.takeSlot else .next s

/-- R51: one step of one agent. -/
def agentStep (a : AgentAction) (s : State) : Result :=
  match a with
  | .poll => poll s
  | .capture l ms => .next (s.captureWrite l (saturateDur ms))
  | .writeClk c => .next (s.setClk c)
  | .supplyKDate k => .next (s.setKDate k)
  | .reset => .next s.applyReset

/-- The agent step that `agenda` says comes next; with nothing on it the block polls (log 5). -/
def nextTurn (s : State) : Result :=
  match s.agenda with
  | [] => poll s
  | a :: rest => agentStep a { s with agenda := rest }

end Sys2Proof.Machine
end

