-- ==== Sys2Proof/Machine/Step.lean ====
section
/-! DEFINITION. The machine's step, and how the host puts an instruction where the next step fetches it (log 4). -/

namespace Sys2Proof.Machine

/-- R4, R51: one step of the agent whose turn it is. -/
def step (s : State) : Host.Outcome State Fault Refusal := nextTurn s

/-- The instruction of a table word, fetched and run by the very next step (log 3, 4). -/
def State.withFetchWord (s : State) (nbits w : Nat) : State := presentTableWord nbits w s

end Sys2Proof.Machine
end

