-- ==== Sys2Proof/Machine/Formats.lean ====
section
/-! DEFINITION. The bit layouts of the records (R90, R91, R92, R95), the numeric codes of the diagnostics events (R95) and of
the failure kinds (R250). -/

namespace Sys2Proof.Machine

/-- R95: the 3-bit code of an event. -/
def DiagCode.code : DiagCode → BitVec 3
  | .onZero => 0
  | .onOne => 1
  | .onStart => 2
  | .onInvalid => 3
  | .onReadStarted => 4
  | .onReadFailed => 5
  | .onSignalCommitted => 6

/-- R95: the event of a code; code 7 is not used. -/
def DiagCode.ofCode (c : BitVec 3) : Option DiagCode :=
  match c.toNat with
  | 0 => some .onZero
  | 1 => some .onOne
  | 2 => some .onStart
  | 3 => some .onInvalid
  | 4 => some .onReadStarted
  | 5 => some .onReadFailed
  | 6 => some .onSignalCommitted
  | _ => none

/-- R250: the code of a failure kind, a name only. -/
def FailKind.code : FailKind → Nat
  | .pulseTiming => 1
  | .structural => 2
  | .checksum => 3
  | .invalidState => 4

/-- R90: `RTCREC`, first argument most significant. -/
def RtcRec.pack (r : RtcRec) : BitVec 56 :=
  r.second ++ r.minute ++ r.hour ++ r.weekday ++ r.day ++ r.month ++ r.year

/-- R90. -/
def RtcRec.unpack (w : BitVec 56) : RtcRec where
  second := w.extractLsb' 48 8
  minute := w.extractLsb' 40 8
  hour := w.extractLsb' 32 8
  weekday := w.extractLsb' 24 8
  day := w.extractLsb' 16 8
  month := w.extractLsb' 8 8
  year := w.extractLsb' 0 8

/-- R91: `CLKREC`, `date_we` most significant. -/
def ClkRec.pack (r : ClkRec) : BitVec 49 :=
  BitVec.ofBool r.dateWe ++ r.sec ++ r.min ++ r.hour ++ r.day ++ r.month ++ r.year

/-- R91. -/
def ClkRec.unpack (w : BitVec 49) : ClkRec where
  dateWe := w.getLsbD 48
  sec := w.extractLsb' 40 8
  min := w.extractLsb' 32 8
  hour := w.extractLsb' 24 8
  day := w.extractLsb' 16 8
  month := w.extractLsb' 8 8
  year := w.extractLsb' 0 8

/-- R92: `KDREC`. -/
def KDate.pack (k : KDate) : BitVec 32 := k.weekday ++ k.day ++ k.month ++ k.year

/-- R92. -/
def KDate.unpack (w : BitVec 32) : KDate where
  weekday := w.extractLsb' 24 8
  day := w.extractLsb' 16 8
  month := w.extractLsb' 8 8
  year := w.extractLsb' 0 8

/-- R95: `DIAGREC`. -/
def DiagRec.pack (r : DiagRec) : BitVec 18 := r.code.code ++ r.dur

/-- R95: the record of a word, none for code 7. -/
def DiagRec.unpack (w : BitVec 18) : Option DiagRec :=
  (DiagCode.ofCode (w.extractLsb' 15 3)).map fun c => { code := c, dur := w.extractLsb' 0 15 }

end Sys2Proof.Machine
end

