-- ==== Sys2Proof/Machine/Trace.lean ====
section
/-! DEFINITION. The trace notation (R100, R101), the frame helper (R102), and the observable result of a run (R284). -/

namespace Sys2Proof.Machine

/-! ## Words and pseudo-operations -/

/-- R100: `H ms`. -/
def wordHigh (ms : Nat) : EvWord := evWord .high (BitVec.ofNat 15 ms)

/-- R100: `L ms`. -/
def wordLow (ms : Nat) : EvWord := evWord .low (BitVec.ofNat 15 ms)

/-- R101: `BIT0` and `BIT1`. -/
def wordBit (b : Bool) : EvWord := if b then wordHigh 200 else wordHigh 100

/-- R101: `GAP0` and `GAP1`. -/
def wordGap (b : Bool) : EvWord := if b then wordLow 800 else wordLow 900

/-- R101: `MARK0` and `MARK1`. -/
def wordMark (b : Bool) : EvWord := if b then wordLow 1800 else wordLow 1900

/-- R101: `SEC b`. -/
def second (b : Bool) : List EvWord := [wordBit b, wordGap b]

/-- R101: `LAST b`. -/
def lastSecond (b : Bool) : List EvWord := [wordBit b, wordMark b]

/-! ## The frame -/

/-- R102: the lowest `n` bits of a number, least significant first. -/
def lsbFirst (n v : Nat) : List Bool := (List.range n).map v.testBit

/-- R102: a two-digit value: its units digit in four bits, its tens digit in `tens` more. -/
def digitBits (tens v : Nat) : List Bool := lsbFirst 4 (v % 10) ++ lsbFirst tens (v / 10)

/-- R12: the exclusive-or of bits. -/
def xorAll (bits : List Bool) : Bool := bits.foldl (· ^^ ·) false

/-- R102: bits 36 to 57: day, day of week, month, year. -/
def dateBits (d w mo y : Nat) : List Bool :=
  digitBits 2 d ++ lsbFirst 3 w ++ digitBits 1 mo ++ digitBits 4 y

/-- R102: the 59 bits of a frame. -/
def frameBits (mi h d w mo y : Nat) : List Bool :=
  List.replicate 20 false ++ [true] ++
  digitBits 3 mi ++ [xorAll (digitBits 3 mi)] ++
  digitBits 2 h ++ [xorAll (digitBits 2 h)] ++
  dateBits d w mo y ++ [xorAll (dateBits d w mo y)]

/-- R101: the 118 words of a frame. -/
def frameWords (mi h d w mo y : Nat) : List EvWord :=
  ((frameBits mi h d w mo y).take 58).flatMap second ++
  ((frameBits mi h d w mo y).drop 58).flatMap lastSecond

/-! ## Presenting a trace -/

/-- R100: each word is a capture write followed by one `Poll`. -/
def present (ws : List EvWord) : List AgentAction :=
  ws.flatMap fun w => [.capture w.level w.dur.toNat, .poll]

/-- R131: the bits of a list accepted one after the other. -/
def acceptBits : List Bool → State → Result
  | [], s => .next s
  | b :: bs, s =>
    match acceptBit b s with
    | .next t => acceptBits bs t
    | .fault r => .fault r
    | .refused r => .refused r

/-- R110: words taken one after the other, each run to completion. -/
def runWords : List EvWord → State → Result
  | [], s => .next s
  | w :: ws, s =>
    match exec (decodeEv w) s with
    | .next t => runWords ws t
    | .fault r => .fault r
    | .refused r => .refused r

/-! ## The observable result -/

/-- R284: the `RTC` records, in emission order. -/
def rtcRecords (o : List OutRec) : List RtcRec :=
  o.filterMap fun r => match r with
    | .rtc r => some r
    | .clk _ => none
    | .diag _ => none

/-- R284: the `CLK` snapshots, in emission order. -/
def clkRecords (o : List OutRec) : List ClkRec :=
  o.filterMap fun r => match r with
    | .rtc _ => none
    | .clk r => some r
    | .diag _ => none

/-- R284: the `DIAG` events, in emission order. -/
def diagRecords (o : List OutRec) : List DiagRec :=
  o.filterMap fun r => match r with
    | .rtc _ => none
    | .clk _ => none
    | .diag r => some r

end Sys2Proof.Machine
end

