-- ==== Sys2Proof/Safety.lean ====
section
/-! DEFINITION. What holds of a safe run: `ds` stays in the codes a run from reset can hold (R34), and the records
delivered to the sinks come as `Commit` writes them (R58, R60, R66, R267). -/

namespace Sys2Proof.Machine

/-- R34: `ds` holds the code of `WAIT` or of one of `B0` to `B58`. -/
abbrev State.dsReachable (s : State) : Prop := s.ds.toNat ≤ 59

/-- R284: the block is at rest when the mailbox is empty. -/
abbrev State.atRest (s : State) : Prop := s.slot.full = false

/-- R66, R228: the clock record that mirrors an RTC record. -/
abbrev mirrors (r : RtcRec) (c : ClkRec) : Prop :=
  c.sec = r.second ∧ c.min = r.minute ∧ c.hour = r.hour ∧ c.day = r.day ∧ c.month = r.month ∧ c.year = r.year

/-- R58, R66, R267: every RTC record has second 36 and is followed at once by the clock record that mirrors it and then by
`ON_SIGNAL_COMMITTED`, and neither of these two stands anywhere else. -/
def commitsWellFormed : List OutRec → Bool
  | [] => true
  | .rtc r :: .clk c :: .diag e :: rest =>
    decide (r.second = 36 ∧ mirrors r c ∧ e = { code := .onSignalCommitted, dur := 0 }) && commitsWellFormed rest
  | .diag e :: rest => decide (e.code ≠ .onSignalCommitted) && commitsWellFormed rest
  | .rtc _ :: _ => false
  | .clk _ :: _ => false

/-- R267: only the four classification events carry a duration. -/
def OutRec.durationAllowed : OutRec → Bool
  | .diag e =>
    match e.code with
    | .onZero => e.dur.between 41 129
    | .onOne => e.dur.between 141 229
    | .onStart => e.dur.between 1601 1999
    | .onInvalid => e.dur.between 0 40 || e.dur.between 130 140 || e.dur.between 230 32767
    | .onReadStarted => e.dur == 0
    | .onReadFailed => e.dur == 0
    | .onSignalCommitted => e.dur == 0
  | .rtc _ => true
  | .clk _ => true

/-- A step is safe when it goes on and leaves a state in which `ds` is reachable and the commits are well formed. -/
def safeOutcome : Result → Prop
  | .next t => t.dsReachable ∧ commitsWellFormed t.out = true
  | .fault _ => False
  | .refused _ => False

end Sys2Proof.Machine
end

