-- ==== Sys2Proof/Certificates/Slice0/Obligations.lean ====
section
/-! DEFINITION. The statements for the provers, and the words they are said in. A statement whose Lean rests on a choice of the
model names the log entry in its docstring. -/

namespace Sys2Proof.Statements

open Sys2Proof.Machine

/-! ## Words -/

/-- A diagnostics record. -/
abbrev ev (c : DiagCode) (d : Dur) : OutRec := .diag { code := c, dur := d }

/-- What no position rule and no failure writes: the mailbox, the clock state, the known date, the parameter and the agenda. -/
abbrev SameBoundary (s t : State) : Prop :=
  t.slot = s.slot ∧ t.clk = s.clk ∧ t.kdate = s.kdate ∧ t.midnightRule = s.midnightRule ∧ t.agenda = s.agenda

/-- R240: FailureRecovery has run from `s`, after the events `o`: the sequencer waits, the accumulators and both flags are
zero, `ON_READ_FAILED` is delivered, and nothing else has changed. -/
abbrev FailedFrom (s : State) (o : List OutRec) (t : State) : Prop :=
  t.ds = 0 ∧ (∀ f, t.getX f = 0) ∧ t.par = false ∧ t.ci = false ∧ t.out = s.out ++ o ++ [ev .onReadFailed 0] ∧
  SameBoundary s t

/-- R138: the successor of a position; `B58` goes to `WAIT`, and `WAIT` stays. -/
def successor (c : Code) : Code := if c = 0 ∨ c = 59 then 0 else c + 1

/-- R136: the codes of `B28`, `B35`, `B58`. -/
abbrev AtParity (c : Code) : Prop := c = 29 ∨ c = 36 ∨ c = 59

/-- R26: the codes whose bits enter `par`: `B21` to `B27`, `B29` to `B34`, `B36` to `B57`. -/
abbrev Covered (c : Code) : Prop :=
  (22 ≤ c.toNat ∧ c.toNat ≤ 28) ∨ (30 ≤ c.toNat ∧ c.toNat ≤ 35) ∨ (37 ≤ c.toNat ∧ c.toNat ≤ 58)

/-! ## The rows of the opcode table by class -/

/-- R132: the 20 ignorable positions with their successors. -/
def ignorableRows : List ((Bool → Instr) × Code) :=
  [ (.posB0, 2), (.posB1, 3), (.posB2, 4), (.posB3, 5), (.posB4, 6)
  , (.posB5, 7), (.posB6, 8), (.posB7, 9), (.posB8, 10), (.posB9, 11)
  , (.posB10, 12), (.posB11, 13), (.posB12, 14), (.posB13, 15), (.posB14, 16)
  , (.posB15, 17), (.posB16, 18), (.posB17, 19), (.posB18, 20), (.posB19, 21) ]

/-- R134: the minute positions with field, weight and successor. -/
def minuteRows : List ((Bool → Instr) × Field × Val × Code) :=
  [ (.posB21, .min, 1, 23), (.posB22, .min, 2, 24), (.posB23, .min, 4, 25), (.posB24, .min, 8, 26)
  , (.posB25, .min, 10, 27), (.posB26, .min, 20, 28), (.posB27, .min, 40, 29) ]

/-- R134: the hour positions. -/
def hourRows : List ((Bool → Instr) × Field × Val × Code) :=
  [ (.posB29, .hour, 1, 31), (.posB30, .hour, 2, 32), (.posB31, .hour, 4, 33), (.posB32, .hour, 8, 34)
  , (.posB33, .hour, 10, 35), (.posB34, .hour, 20, 36) ]

/-- R134: the day positions. -/
def dayRows : List ((Bool → Instr) × Field × Val × Code) :=
  [ (.posB36, .day, 1, 38), (.posB37, .day, 2, 39), (.posB38, .day, 4, 40), (.posB39, .day, 8, 41)
  , (.posB40, .day, 10, 42), (.posB41, .day, 20, 43) ]

/-- R134: the month positions. -/
def monthRows : List ((Bool → Instr) × Field × Val × Code) :=
  [ (.posB45, .month, 1, 47), (.posB46, .month, 2, 48), (.posB47, .month, 4, 49), (.posB48, .month, 8, 50)
  , (.posB49, .month, 10, 51) ]

/-- R134: the year positions. -/
def yearRows : List ((Bool → Instr) × Field × Val × Code) :=
  [ (.posB50, .year, 1, 52), (.posB51, .year, 2, 53), (.posB52, .year, 4, 54), (.posB53, .year, 8, 55)
  , (.posB54, .year, 10, 56), (.posB55, .year, 20, 57), (.posB56, .year, 40, 58), (.posB57, .year, 80, 59) ]

/-- R134: all 32 weighted positions. -/
def weightedRows : List ((Bool → Instr) × Field × Val × Code) :=
  minuteRows ++ hourRows ++ dayRows ++ monthRows ++ yearRows

/-- R135: the three day-of-week positions. -/
def dayOfWeekRows : List ((Bool → Instr) × Code) :=
  [ (.posB42, 44), (.posB43, 45), (.posB44, 46) ]

/-- R86, R134: the weight position `c` adds to field `f`, read from the position table. -/
def weightAt (c : Code) (f : Field) : Nat :=
  match descriptor c with
  | some r => if r.field = some f then (r.weight.getD 0).toNat else 0
  | none => 0

/-- R132 to R137, R200: the class rule of a row of the position table. -/
def classRule (r : Descriptor) (b : Bool) (s : State) : State :=
  match r.cls with
  | .wait => s
  | .ignorable => { s with ds := r.nxt.getD 0 }
  | .fixed => if b = true then { s with ds := r.nxt.getD 0 } else failRecovery .structural s
  | .weighted =>
    { s.setX (r.field.getD .min) (s.getX (r.field.getD .min) + if b = true then r.weight.getD 0 else 0) with
      par := s.par ^^ b, ds := r.nxt.getD 0 }
  | .discarded => { s with par := s.par ^^ b, ds := r.nxt.getD 0 }
  | .parity =>
    if s.par = b then
      { s with par := false, ci := if r.domain = some .p2 then true else s.ci, ds := r.nxt.getD 0 }
    else failRecovery .checksum s
  | .spare => failRecovery .invalidState s

/-! ## Commit -/

/-- R10: the corrected minute, as a number. -/
def minuteBefore (m : Val) : Nat := if m.toNat = 0 then 59 else m.toNat - 1

/-- R10: the corrected hour, as a number. -/
def hourBefore (m h : Val) : Nat :=
  if m.toNat = 0 then (if h.toNat = 0 then 23 else h.toNat - 1) else h.toNat

/-- R225: the midnight rule suppresses the date. -/
def Suppressed (s : State) : Prop :=
  match s.midnightRule with
  | .corrected => minuteBefore s.xMin = 0 ∧ hourBefore s.xMin s.xHour = 0
  | .decoded => s.xMin.toNat = 0 ∧ s.xHour.toNat = 0

/-- R221: a date was decoded. -/
abbrev DateDecoded (s : State) : Prop := s.xDay.toNat ≠ 0 ∨ s.xMonth.toNat ≠ 0 ∨ s.xYear.toNat ≠ 0

/-- R226 to R228: the date fields of the three copies, the RTC record, the clock record and the clock state. -/
abbrev DateWritten (s t : State) (r : RtcRec) (c : ClkRec) : Prop :=
  (DateDecoded s ∧ ¬ Suppressed s →
    r.day = s.xDay ∧ r.month = s.xMonth ∧ r.year = s.xYear ∧ c.dateWe = true ∧
    t.clk.day = s.xDay ∧ t.clk.month = s.xMonth ∧ t.clk.year = s.xYear) ∧
  (¬ (DateDecoded s ∧ ¬ Suppressed s) →
    r.day = s.kdate.day ∧ r.month = s.kdate.month ∧ r.year = s.kdate.year ∧ c.dateWe = false ∧
    t.clk.day = s.clk.day ∧ t.clk.month = s.clk.month ∧ t.clk.year = s.clk.year)

/-- R220: `Commit` has run from `s` after the events `o`, with the sequencer at `p`. -/
abbrev CommittedFrom (s : State) (o : List OutRec) (p : Code) (t : State) : Prop :=
  ∃ (r : RtcRec) (c : ClkRec),
    t.out = s.out ++ o ++ [.rtc r, .clk c, ev .onSignalCommitted 0] ∧
    r.second.toNat = 36 ∧ r.minute.toNat = minuteBefore s.xMin ∧ r.hour.toNat = hourBefore s.xMin s.xHour ∧
    r.weekday = s.kdate.weekday ∧ mirrors r c ∧ DateWritten s t r c ∧
    t.clk.sec.toNat = 36 ∧ t.clk.min = r.minute ∧ t.clk.hour = r.hour ∧
    (∀ f, t.getX f = 0) ∧ t.ci = false ∧ t.par = s.par ∧ t.ds = p ∧
    t.slot = s.slot ∧ t.kdate = s.kdate ∧ t.midnightRule = s.midnightRule ∧ t.agenda = s.agenda

/-- R10, R232: a record of the minute before `(mi, h)`, with the known weekday. -/
abbrev TimeOf (r : RtcRec) (mi h : Nat) (k : KDate) : Prop :=
  r.second.toNat = 36 ∧ r.minute.toNat = (if mi = 0 then 59 else mi - 1) ∧
  r.hour.toNat = (if mi = 0 then (if h = 0 then 23 else h - 1) else h) ∧ r.weekday = k.weekday

/-- R267: how many failures a trace of records shows. -/
def failures (o : List OutRec) : Nat := (diagRecords o).countP (fun e => decide (e.code = .onReadFailed))

/-- The fields of a state that no sink receives. -/
abbrev SameButOutputs (t u : State) : Prop := { t with out := [] } = { u with out := [] }

end Sys2Proof.Statements

open Sys2Proof
open Sys2Proof.Machine
open Sys2Proof.Statements

/-! ## Encoding -/

/-- R83, R86: the byte order is log 1, the bit of a position byte is log 2. -/
def Obligations.WordsOfTheSpecDecode : Prop :=
  decode [0x64, 0x80] = .ok (.highZero 100) ∧ decode [0xC8, 0x80] = .ok (.highOne 200) ∧
  decode [0x87, 0x80] = .ok (.highInvalid 135) ∧ decode [0x41, 0x06] = .ok (.lowStart 1601) ∧
  decode [0x84, 0x03] = .ok (.lowOrdinary 900) ∧ decode [0x16] = .ok (.posB21 false) ∧
  decode [0x64] = .ok (.posB35 true) ∧ decode [0x7B] = .ok (.posB58 true) ∧ decode [0x3C] = .ok (.posSpare false) ∧
  decode [0x3F] = .ok (.posUndef63 false)

/-- R81, R83, R85, R86: the round trip, for every instruction (the byte forms are log 1 and 2). -/
def Obligations.DecodeOfEncodeIsTheInstruction : Prop :=
  ∀ i : Instr, i.wf = true → decode (encode i) = .ok i

/-- R83, R121: the five operations partition the event words. -/
def Obligations.EveryEventWordSelectsOneOperation : Prop :=
  ∀ w : EvWord,
    (∃! i : Instr, i.wf = true ∧ encode i = evBytes w) ∧ decode (evBytes w) = .ok (decodeEv w) ∧
    encode (decodeEv w) = evBytes w ∧ ∀ s : State, ∃ t, exec (decodeEv w) s = .next t

/-- R81 to R83: the operation map, range by range. -/
def Obligations.EventWordRangesSelectOperations : Prop :=
  ∀ w : EvWord, ∀ d : Dur, d.toNat = w.toNat % 32768 →
    (32768 ≤ w.toNat →
      (41 ≤ d.toNat ∧ d.toNat ≤ 129 → decodeEv w = .highZero d) ∧
      (141 ≤ d.toNat ∧ d.toNat ≤ 229 → decodeEv w = .highOne d) ∧
      (d.toNat ≤ 40 ∨ (130 ≤ d.toNat ∧ d.toNat ≤ 140) ∨ 230 ≤ d.toNat → decodeEv w = .highInvalid d)) ∧
    (w.toNat < 32768 →
      (1601 ≤ d.toNat ∧ d.toNat ≤ 1999 → decodeEv w = .lowStart d) ∧
      (d.toNat ≤ 1600 ∨ 2000 ≤ d.toNat → decodeEv w = .lowOrdinary d))

/-- R118. -/
def Obligations.ClassifyHighWindows : Prop :=
  (∀ d : Dur,
    (classifyHigh d = .zero ↔ 40 < d.toNat ∧ d.toNat < 130) ∧
    (classifyHigh d = .one ↔ 140 < d.toNat ∧ d.toNat < 230) ∧
    (classifyHigh d = .invalid ↔ ¬ (40 < d.toNat ∧ d.toNat < 130) ∧ ¬ (140 < d.toNat ∧ d.toNat < 230))) ∧
  ∀ d : Dur, d = 0 ∨ d = 40 ∨ d = 130 ∨ d = 140 ∨ d = 230 ∨ d = 1000 → classifyHigh d = .invalid

/-- R119. -/
def Obligations.ClassifyLowWindow : Prop :=
  ∀ d : Dur,
    (classifyLow d = .startMarker ↔ 1600 < d.toNat ∧ d.toNat < 2000) ∧
    (classifyLow d = .ordinary ↔ ¬ (1600 < d.toNat ∧ d.toNat < 2000))

/-- R81, R83, R85, R86: the two byte forms (log 1, 2) and the refusals of the decoder. -/
def Obligations.PositionBytesRoundTrip : Prop :=
  (∀ p : Byte, p.getLsbD 7 = false →
    decode [p] = .ok (decodePos (p.extractLsb' 0 6) (p.getLsbD 6)) ∧
    (decodePos (p.extractLsb' 0 6) (p.getLsbD 6)).wf = true ∧ encode (decodePos (p.extractLsb' 0 6) (p.getLsbD 6)) = [p]) ∧
  (∀ lo hi : Byte,
    decode [lo, hi] = .ok (decodeEv (hi ++ lo)) ∧ (decodeEv (hi ++ lo)).wf = true ∧
    encode (decodeEv (hi ++ lo)) = [lo, hi]) ∧
  (∀ p : Byte, p.getLsbD 7 = true → decode [p] = .error .positionByteTooLarge) ∧
  (∀ l : List Byte, l.length ≠ 1 → l.length ≠ 2 → decode l = .error .wrongLength)

/-- R90, R91, R92, R95. -/
def Obligations.RecordFieldsStandAtTheirBits : Prop :=
  (∀ r : RtcRec, RtcRec.unpack r.pack = r ∧ r.pack.toNat / 2 ^ 48 = r.second.toNat ∧ r.pack.toNat % 256 = r.year.toNat) ∧
  (∀ r : ClkRec, ClkRec.unpack r.pack = r ∧ r.pack.getLsbD 48 = r.dateWe ∧ r.pack.toNat % 256 = r.year.toNat) ∧
  (∀ k : KDate, KDate.unpack k.pack = k ∧ k.pack.toNat / 2 ^ 24 = k.weekday.toNat ∧ k.pack.toNat % 256 = k.year.toNat) ∧
  (∀ r : DiagRec, DiagRec.unpack r.pack = some r ∧ r.pack.toNat = r.code.code.toNat * 32768 + r.dur.toNat) ∧
  (∀ w : BitVec 18, w.toNat / 32768 = 7 → DiagRec.unpack w = none)

/-! ## Poll and the step -/

/-- R110 (the two bytes of the word are log 1). -/
def Obligations.PollTakesOneEvent : Prop :=
  ∀ s : State,
    (s.slot.full = false → poll s = .next s) ∧
    (s.slot.full = true → ∀ i, decode (evBytes (evWord s.slot.level s.slot.dur)) = .ok i →
      poll s = exec i { s with slot := { full := false, level := s.slot.level, dur := s.slot.dur } })

/-- R110, with the agenda of log 5: whose turn it is is the model's own field. -/
def Obligations.StepRunsTheDecodedInstruction : Prop :=
  ∀ (s : State) (rest : List AgentAction),
    (s.agenda = [] ∧ rest = []) ∨ s.agenda = .poll :: rest →
    (s.slot.full = false → step s = .next { s with agenda := rest }) ∧
    (s.slot.full = true → ∀ i, decode (evBytes (evWord s.slot.level s.slot.dur)) = .ok i →
      step s = exec i { s with agenda := rest, slot := { s.slot with full := false } })

/-- R117, and R131 in it: `AcceptBit` runs the rule of the position in `ds`. -/
def Obligations.HighEventRunsItsPositionRule : Prop :=
  ∀ (d : Dur) (s : State),
    (classifyHigh d = .zero →
      exec (decodeEvent .high d) s = exec (decodePos s.ds false) { s with out := s.out ++ [ev .onZero d] }) ∧
    (classifyHigh d = .one →
      exec (decodeEvent .high d) s = exec (decodePos s.ds true) { s with out := s.out ++ [ev .onOne d] }) ∧
    (classifyHigh d = .invalid →
      ∃ t, exec (decodeEvent .high d) s = .next t ∧ FailedFrom s [ev .onInvalid d] t)

/-- R116. -/
def Obligations.LowEventMarksThenChecksCommit : Prop :=
  ∀ (d : Dur) (s s1 : State),
    (classifyLow d = .startMarker →
      s1 = { s with ds := 1, out := s.out ++ [ev .onStart d, ev .onReadStarted 0] }) →
    (classifyLow d = .ordinary → s1 = s) →
    (s.ci = false → exec (decodeEvent .low d) s = .next s1) ∧
    (s.ci = true → ∃ t, exec (decodeEvent .low d) s = .next t ∧ CommittedFrom s1 [] s1.ds t)

/-- Log 3 and 4: how an instruction is put where the next step fetches it. -/
def Obligations.FetchWordIsRunByTheNextStep : Prop :=
  ∀ (s : State) (nbits w : Nat) (i : Instr), decodeTableWord nbits w = some i →
    (nbits = 16 →
      step (s.withFetchWord nbits w) =
        exec i { s with slot := { full := false, level := EvWord.level (BitVec.ofNat 16 w),
                                  dur := EvWord.dur (BitVec.ofNat 16 w) } }) ∧
    (nbits ≠ 16 →
      step (s.withFetchWord nbits w) =
        exec i { s with
          ds := BitVec.ofNat 6 (w % 64)
          slot := { full := false, level := .high, dur := if w.testBit 6 then 200 else 100 }
          out := s.out ++ [if w.testBit 6 then ev .onOne 200 else ev .onZero 100] })

/-- R121, R284: `Poll` is total and the block never halts. -/
def Obligations.EveryStepAnswersANextState : Prop :=
  ∀ s : State, ∃ t, step s = .next t

/-- R54. -/
def Obligations.AnEventIsConsumedAtMostOnce : Prop :=
  (∀ s t : State, poll s = .next t → t.slot.full = false ∧ poll t = .next t) ∧
  (∀ (s : State) (l l' : Level) (d d' : Dur), (s.captureWrite l' d').captureWrite l d = s.captureWrite l d)

/-! ## Positions -/

/-- R132: `POS.B0` to `POS.B19`. -/
def Obligations.IgnorablePositionsAdvance : Prop :=
  ∀ p ∈ ignorableRows, ∀ (b : Bool) (s : State), exec (p.1 b) s = .next { s with ds := p.2 }

/-- R133: `POS.B20`. -/
def Obligations.StartBitMustBeOne : Prop :=
  ∀ s : State,
    exec (.posB20 true) s = .next { s with ds := 22 } ∧
    ∃ t, exec (.posB20 false) s = .next t ∧ FailedFrom s [] t

/-- R134: `POS.B21` to `POS.B27`, `POS.B29` to `POS.B34`, `POS.B36` to `POS.B41`, `POS.B45` to `POS.B57`. -/
def Obligations.WeightedPositionsAccumulate : Prop :=
  ∀ p ∈ weightedRows, ∀ (b : Bool) (s : State), ∃ t,
    exec (p.1 b) s = .next t ∧
    (t.getX p.2.1).toNat = ((s.getX p.2.1).toNat + if b = true then p.2.2.1.toNat else 0) % 256 ∧
    (∀ g, g ≠ p.2.1 → t.getX g = s.getX g) ∧ t.par = (s.par ^^ b) ∧ t.ds = p.2.2.2 ∧ t.ci = s.ci ∧ t.out = s.out ∧
    SameBoundary s t

/-- R135: `POS.B42` to `POS.B44`. -/
def Obligations.DayOfWeekEntersParityOnly : Prop :=
  ∀ p ∈ dayOfWeekRows, ∀ (b : Bool) (s : State), exec (p.1 b) s = .next { s with par := s.par ^^ b, ds := p.2 }

/-- R136: `POS.B28`, `POS.B35`, `POS.B58`. -/
def Obligations.ParityChecksPassOrFail : Prop :=
  ∀ (b : Bool) (s : State),
    (s.par = b →
      exec (.posB28 b) s = .next { s with par := false, ds := 30 } ∧
      exec (.posB35 b) s = .next { s with par := false, ci := true, ds := 37 } ∧
      exec (.posB58 b) s = .next { s with par := false, ds := 0 }) ∧
    (s.par ≠ b →
      (∃ t, exec (.posB28 b) s = .next t ∧ FailedFrom s [] t) ∧
      (∃ t, exec (.posB35 b) s = .next t ∧ FailedFrom s [] t) ∧
      (∃ t, exec (.posB58 b) s = .next t ∧ FailedFrom s [] t))

/-- R140: `POS.WAIT`. -/
def Obligations.WaitIgnoresBitsButNotInvalidPulses : Prop :=
  (∀ (b : Bool) (s : State), exec (.posWait b) s = .next s) ∧
  ∀ (d : Dur) (s : State), s.ds = 0 →
    exec (.highZero d) s = .next { s with out := s.out ++ [ev .onZero d] } ∧
    exec (.highOne d) s = .next { s with out := s.out ++ [ev .onOne d] } ∧
    ∃ t, exec (.highInvalid d) s = .next t ∧ FailedFrom s [ev .onInvalid d] t

/-- R200, R201: `POS.SPARE`, `POS.UNDEF61` to `POS.UNDEF63`, whose own effect is the failure. -/
def Obligations.SpareAndUndefinedCodesFail : Prop :=
  ∀ (b : Bool) (s : State),
    (∃ t, exec (.posSpare b) s = .next t ∧ FailedFrom s [] t) ∧
    (∃ t, exec (.posUndef61 b) s = .next t ∧ FailedFrom s [] t) ∧
    (∃ t, exec (.posUndef62 b) s = .next t ∧ FailedFrom s [] t) ∧
    (∃ t, exec (.posUndef63 b) s = .next t ∧ FailedFrom s [] t)

/-- R84 to R87: the table as data against the meanings. -/
def Obligations.PositionTableAgreesWithMeanings : Prop :=
  (∀ c : Code, c.toNat ≤ 60 → ∃ r, descriptor c = some r ∧
    (∀ (b : Bool) (s : State), exec (decodePos c b) s = .next (classRule r b s)) ∧
    r.frameBit = (if c.toNat = 0 ∨ c.toNat = 60 then none else some (c.toNat - 1)) ∧
    r.nxt = (if c.toNat = 0 ∨ c.toNat = 60 then none else some (successor c)) ∧
    r.domain = (if 22 ≤ c.toNat ∧ c.toNat ≤ 29 then some .p1 else if 30 ≤ c.toNat ∧ c.toNat ≤ 36 then some .p2
      else if 37 ≤ c.toNat ∧ c.toNat ≤ 59 then some .p3 else none)) ∧
  ∀ c : Code, 61 ≤ c.toNat → descriptor c = none

/-! ## High events -/

/-- R111: `HIGH.ZERO` where the position accepts a 0. -/
def Obligations.HighZeroEffect : Prop :=
  ∀ (d : Dur) (s : State), s.ds.toNat ≤ 59 → s.ds ≠ 21 → (AtParity s.ds → s.par = false) →
    exec (.highZero d) s =
      .next { s with ds := successor s.ds, ci := s.ci || decide (s.ds = 36), out := s.out ++ [ev .onZero d] }

/-- R112: `HIGH.ONE` where the position accepts a 1. -/
def Obligations.HighOneEffect : Prop :=
  ∀ (d : Dur) (s : State), s.ds.toNat ≤ 59 → (AtParity s.ds → s.par = true) → ∃ t,
    exec (.highOne d) s = .next t ∧ t.ds = successor s.ds ∧
    (∀ f, (t.getX f).toNat = ((s.getX f).toNat + weightAt s.ds f) % 256) ∧
    t.par = (if Covered s.ds then !s.par else if AtParity s.ds then false else s.par) ∧
    t.ci = (s.ci || decide (s.ds = 36)) ∧ t.out = s.out ++ [ev .onOne d] ∧ SameBoundary s t

/-- R111, R112: where a bit fails, and only there. -/
def Obligations.HighBitsFailExactlyWhere : Prop :=
  ∀ (d : Dur) (s : State),
    ((s.ds = 21 ∨ (AtParity s.ds ∧ s.par = true) ∨ 60 ≤ s.ds.toNat) ↔
      ∃ t, exec (.highZero d) s = .next t ∧ FailedFrom s [ev .onZero d] t) ∧
    (((AtParity s.ds ∧ s.par = false) ∨ 60 ≤ s.ds.toNat) ↔
      ∃ t, exec (.highOne d) s = .next t ∧ FailedFrom s [ev .onOne d] t)

/-- R113: `HIGH.INVALID`, whose own effect is the failure. -/
def Obligations.HighInvalidAlwaysFails : Prop :=
  ∀ (d : Dur) (s : State), ∃ t, exec (.highInvalid d) s = .next t ∧ FailedFrom s [ev .onInvalid d] t

/-! ## Low events and Commit -/

/-- R114: `LOW.START`. -/
def Obligations.LowStartRestartsAndCommits : Prop :=
  ∀ (d : Dur) (s : State),
    (s.ci = false →
      exec (.lowStart d) s = .next { s with ds := 1, out := s.out ++ [ev .onStart d, ev .onReadStarted 0] }) ∧
    (s.ci = true → ∃ t,
      exec (.lowStart d) s = .next t ∧ CommittedFrom s [ev .onStart d, ev .onReadStarted 0] 1 t)

/-- R115, R220: `LOW.ORDINARY` and `Commit`, under both values of `MIDNIGHT_RULE`. -/
def Obligations.LowOrdinaryCommitsOrDoesNothing : Prop :=
  ∀ (d : Dur) (s : State),
    (s.ci = false → exec (.lowOrdinary d) s = .next s) ∧
    (s.ci = true → ∃ t, exec (.lowOrdinary d) s = .next t ∧ CommittedFrom s [] s.ds t)

/-- R225. -/
def Obligations.MidnightRuleFiresExactlyAt : Prop :=
  ∀ (d : Dur) (s t : State), s.ci = true → exec (.lowOrdinary d) s = .next t → ∃ r c,
    t.out = s.out ++ [.rtc r, .clk c, ev .onSignalCommitted 0] ∧
    (s.midnightRule = .corrected →
      (c.dateWe = true ↔ DateDecoded s ∧ ¬ (s.xMin.toNat = 1 ∧ s.xHour.toNat = 0))) ∧
    (s.midnightRule = .decoded →
      (c.dateWe = true ↔ DateDecoded s ∧ ¬ (s.xMin.toNat = 0 ∧ s.xHour.toNat = 0))) ∧
    (c.dateWe = false →
      r.day = s.kdate.day ∧ r.month = s.kdate.month ∧ r.year = s.kdate.year ∧
      t.clk.day = s.clk.day ∧ t.clk.month = s.clk.month ∧ t.clk.year = s.clk.year ∧
      t.xDay = 0 ∧ t.xMonth = 0 ∧ t.xYear = 0)

/-- R10, R223. -/
def Obligations.CorrectionIsOneMinuteEarlier : Prop :=
  ∀ m h : Val,
    (m.toNat ≤ 59 → h.toNat ≤ 23 →
      (correctTime m h).1.toNat ≤ 59 ∧ (correctTime m h).2.toNat ≤ 23 ∧
      (correctTime m h).2.toNat * 60 + (correctTime m h).1.toNat = (h.toNat * 60 + m.toNat + 1439) % 1440) ∧
    (correctTime m h).1.toNat = minuteBefore m ∧ (correctTime m h).2.toNat = hourBefore m h

/-- R224. -/
def Obligations.CorrectionTableOfTheSpec : Prop :=
  correctTime 0 5 = (59, 4) ∧ correctTime 0 0 = (59, 23) ∧ correctTime 1 0 = (0, 0) ∧ correctTime 34 12 = (33, 12) ∧
  correctTime 59 23 = (58, 23) ∧ correctTime 0 24 = (59, 23) ∧ correctTime 85 45 = (84, 45) ∧ correctTime 0 1 = (59, 0)

/-- R60, R294. -/
def Obligations.RtcIsWrittenExactlyByLowEventsWithIntent : Prop :=
  ∀ s t : State, poll s = .next t →
    (s.slot.full = true ∧ s.slot.level = .low ∧ s.ci = true →
      (rtcRecords t.out).length = (rtcRecords s.out).length + 1 ∧
      (clkRecords t.out).length = (clkRecords s.out).length + 1 ∧ t.ci = false) ∧
    (¬ (s.slot.full = true ∧ s.slot.level = .low ∧ s.ci = true) →
      rtcRecords t.out = rtcRecords s.out ∧ clkRecords t.out = clkRecords s.out ∧ t.clk = s.clk)

/-! ## FailureRecovery, the start marker, reset and the other agents -/

/-- R130. -/
def Obligations.StartMarkerWritesOnlyDs : Prop :=
  ∀ s : State,
    (acceptStartMarker s).ds = codeB 0 ∧ (acceptStartMarker s).out = s.out ++ [ev .onReadStarted 0] ∧
    { acceptStartMarker s with ds := s.ds, out := s.out } = s

/-- R240. -/
def Obligations.FailureLeavesTheResetFrame : Prop :=
  ∀ (k k' : FailKind) (s : State),
    (failRecovery k s).ds = State.reset.ds ∧ (∀ f, (failRecovery k s).getX f = State.reset.getX f) ∧
    (failRecovery k s).par = State.reset.par ∧ (failRecovery k s).ci = State.reset.ci ∧
    (failRecovery k s).out = s.out ++ [ev .onReadFailed 0] ∧ SameBoundary s (failRecovery k s) ∧
    failRecovery k s = failRecovery k' s

/-- R242. -/
def Obligations.FailureIsIdempotent : Prop :=
  (∀ (k k' : FailKind) (s : State),
    failRecovery k' (failRecovery k s) =
      { failRecovery k s with out := s.out ++ [ev .onReadFailed 0, ev .onReadFailed 0] }) ∧
  ∀ (d : Dur) (s : State), s.ds = 0 → (∀ f, s.getX f = 0) → s.par = false → s.ci = false →
    exec (.highInvalid d) s = .next { s with out := s.out ++ [ev .onInvalid d, ev .onReadFailed 0] }

/-- R254. -/
def Obligations.AtMostOneFailurePerPoll : Prop :=
  ∀ s t : State, poll s = .next t →
    failures t.out ≤ failures s.out + 1 ∧
    (s.slot.full = false ∨ s.slot.level = .low → failures t.out = failures s.out)

/-- R33; the fields the spec leaves unspecified (log 6, 7, 8) are not stated. -/
def Obligations.ResetStateOfTheSpec : Prop :=
  State.reset.ds = codeWait ∧ (∀ f, State.reset.getX f = 0) ∧ State.reset.par = false ∧ State.reset.ci = false ∧
  State.reset.slot.full = false ∧ State.reset.out = []

/-- R280. -/
def Obligations.ApplyingResetClearsTheBlock : Prop :=
  (∀ s : State,
    s.applyReset.ds = codeWait ∧ (∀ f, s.applyReset.getX f = 0) ∧ s.applyReset.par = false ∧ s.applyReset.ci = false ∧
    s.applyReset.slot.full = false ∧ s.applyReset.out = s.out ∧ s.applyReset.clk = s.clk ∧
    s.applyReset.kdate = s.kdate) ∧
  ∀ s : State, s.ds = codeWait → (∀ f, s.getX f = 0) → s.par = false → s.ci = false → s.slot.full = false →
    s.applyReset = s

/-- R52. -/
def Obligations.CaptureWriteOverwritesTheMailbox : Prop :=
  ∀ (l : Level) (d : Dur) (s : State) (old : Slot),
    s.captureWrite l d = { s with slot := { full := true, level := l, dur := d } } ∧
    ({ s with slot := old } : State).captureWrite l d = s.captureWrite l d

/-- R51, R52, R56, R57, R59, with the agenda of log 5. -/
def Obligations.OtherAgentsTouchOnlyTheirState : Prop :=
  ∀ (s : State) (rest : List AgentAction),
    (∀ l ms, s.agenda = .capture l ms :: rest → ∃ d : Dur, d.toNat = min ms 32767 ∧
      step s = .next { s with slot := { full := true, level := l, dur := d }, agenda := rest }) ∧
    (∀ c, s.agenda = .writeClk c :: rest → step s = .next { s with clk := c, agenda := rest }) ∧
    (∀ k, s.agenda = .supplyKDate k :: rest → step s = .next { s with kdate := k, agenda := rest }) ∧
    (s.agenda = .reset :: rest → step s = .next { s.applyReset with agenda := rest })

/-! ## The whole machine -/

/-- R34: the reachable-state invariant. -/
def Obligations.EveryStepKeepsDsReachable : Prop :=
  ∀ s t : State, s.dsReachable → step s = .next t → t.dsReachable

/-- R33, R34. -/
def Obligations.ResetDsIsReachable : Prop :=
  State.reset.dsReachable ∧ State.reset.ds = codeWait

/-- R58, R66, R228, R267, over the one ordered list of log 12. -/
def Obligations.EveryStepKeepsCommitsWellFormed : Prop :=
  ∀ s t : State, commitsWellFormed s.out = true → step s = .next t → commitsWellFormed t.out = true

/-- R33, R280. -/
def Obligations.ResetCommitsWellFormed : Prop :=
  commitsWellFormed State.reset.out = true ∧ State.reset.out.all OutRec.durationAllowed = true

/-- R34, R58, R284, for every interleaving the agenda (log 5) can hold. -/
def Obligations.EveryRunStaysSafe : Prop :=
  ∀ (n : Nat) (s : State), s.dsReachable → commitsWellFormed s.out = true →
    safeOutcome (Host.Core.run Sys2Proof.core n s)

/-- R83, R95, R267. -/
def Obligations.EveryStepKeepsEventDurationsInTheirRanges : Prop :=
  ∀ s t : State, s.out.all OutRec.durationAllowed = true → step s = .next t →
    t.out.all OutRec.durationAllowed = true

/-- R23. -/
def Obligations.DsMovesOnlyAsListed : Prop :=
  ∀ s t : State, poll s = .next t →
    (s.slot.full = false → t = s) ∧
    (s.slot.full = true → s.slot.level = .low →
      t.ds = if classifyLow s.slot.dur = .startMarker then 1 else s.ds) ∧
    (s.slot.full = true → s.slot.level = .high →
      t.ds = 0 ∨ (1 ≤ s.ds.toNat ∧ s.ds.toNat ≤ 58 ∧ t.ds = s.ds + 1))

/-- R27. -/
def Obligations.IntentIsSetOnlyByHourParity : Prop :=
  ∀ s t : State, poll s = .next t →
    (s.ci = false → t.ci = true →
      s.slot.full = true ∧ s.slot.level = .high ∧ s.ds = 36 ∧ t.ds = 37 ∧
      (s.par = false ∧ classifyHigh s.slot.dur = .zero ∨ s.par = true ∧ classifyHigh s.slot.dur = .one)) ∧
    (s.ci = true → t.ci = false →
      s.slot.full = true ∧
      (s.slot.level = .low ∧ t.out.getLast? = some (ev .onSignalCommitted 0) ∨
       s.slot.level = .high ∧ t.out.getLast? = some (ev .onReadFailed 0)))

/-- R30, R50, R57, R61: the frame of every instruction. -/
def Obligations.OperationsTouchOnlyTheirOutputs : Prop :=
  ∀ (i : Instr) (s t : State), exec i s = .next t →
    t.slot = s.slot ∧ t.kdate = s.kdate ∧ t.midnightRule = s.midnightRule ∧ t.agenda = s.agenda ∧
    (∃ l, t.out = s.out ++ l) ∧
    ((∀ d, i ≠ .lowStart d ∧ i ≠ .lowOrdinary d) ∨ s.ci = false → t.clk = s.clk)

/-- R30, R61: the block never reads `clk`, and no rule reads an event back. -/
def Obligations.OutputsAndClockAreNeverReadBack : Prop :=
  ∀ (i : Instr) (s t : State) (o : List OutRec) (c : Clk), exec i s = .next t →
    ∃ (l : List OutRec) (c' : Clk), t.out = s.out ++ l ∧
      exec i { s with out := o, clk := c } = .next { t with out := o ++ l, clk := c' }

/-- R89, R101. -/
def Obligations.DurationsOfOneWindowActAlike : Prop :=
  ∀ (d d' : Dur) (s t : State), ∀ mk ∈ [Instr.highZero, Instr.highOne, Instr.highInvalid, Instr.lowStart,
      Instr.lowOrdinary], exec (mk d) s = .next t →
    ∃ t', exec (mk d') s = .next t' ∧ SameButOutputs t' t ∧
      rtcRecords t'.out = rtcRecords t.out ∧ clkRecords t'.out = clkRecords t.out ∧
      (diagRecords t'.out).map (·.code) = (diagRecords t.out).map (·.code) ∧
      (t'.out = t.out ∨ ∃ c ∈ [DiagCode.onZero, .onOne, .onInvalid, .onStart], ∃ l : List OutRec,
        t.out = s.out ++ ev c d :: l ∧ t'.out = s.out ++ ev c d' :: l)

/-- R137: "A decoder that never receives a start marker ignores all bit events indefinitely". -/
def Obligations.NoStartMarkerStaysAtWait : Prop :=
  ∀ (ws : List EvWord) (s : State), (∀ w ∈ ws, ∀ d, decodeEv w ≠ .lowStart d) →
    s.ds = 0 → (∀ f, s.getX f = 0) → s.par = false → s.ci = false →
    ∃ t, runWords ws s = .next t ∧ t.ds = 0 ∧ (∀ f, t.getX f = 0) ∧ t.par = false ∧ t.ci = false ∧ t.clk = s.clk ∧
      rtcRecords t.out = rtcRecords s.out ∧ clkRecords t.out = clkRecords s.out

/-- R88, R134, R136, R203: the minute domain. -/
def Obligations.MinuteGroupIsDecidedByItsParity : Prop :=
  ∀ (s : State) (bits : List Bool) (p : Bool), s.ds = codeB 21 → bits.length = 7 →
    (∃ u, acceptBits bits s = .next u ∧ u.ds = codeB 28 ∧ u.out = s.out) ∧
    (p = (s.par ^^ xorAll bits) → ∃ t, acceptBits (bits ++ [p]) s = .next t ∧ t.ds = codeB 29 ∧ t.par = false ∧
      t.xMin.toNat = (s.xMin.toNat + fieldValue bits) % 256 ∧ (∀ f, f ≠ .min → t.getX f = s.getX f) ∧ t.ci = s.ci ∧
      t.out = s.out ∧ SameBoundary s t) ∧
    (p ≠ (s.par ^^ xorAll bits) → ∃ t, acceptBits (bits ++ [p]) s = .next t ∧ FailedFrom s [] t)

/-- R88, R134, R176, R203: the hour domain. -/
def Obligations.HourGroupIsDecidedByItsParity : Prop :=
  ∀ (s : State) (bits : List Bool) (p : Bool), s.ds = codeB 29 → bits.length = 6 →
    (∃ u, acceptBits bits s = .next u ∧ u.ds = codeB 35 ∧ u.out = s.out) ∧
    (p = (s.par ^^ xorAll bits) → ∃ t, acceptBits (bits ++ [p]) s = .next t ∧ t.ds = codeB 36 ∧ t.par = false ∧
      t.xHour.toNat = (s.xHour.toNat + fieldValue bits) % 256 ∧ (∀ f, f ≠ .hour → t.getX f = s.getX f) ∧ t.ci = true ∧
      t.out = s.out ∧ SameBoundary s t) ∧
    (p ≠ (s.par ^^ xorAll bits) → ∃ t, acceptBits (bits ++ [p]) s = .next t ∧ FailedFrom s [] t)

/-- R88, R134 to R136, R199: the date domain. -/
def Obligations.DateGroupIsDecidedByItsParity : Prop :=
  ∀ (s : State) (day dow month year : List Bool) (p : Bool), s.ds = codeB 36 → day.length = 6 → dow.length = 3 →
    month.length = 5 → year.length = 8 →
    (p = (s.par ^^ xorAll (day ++ dow ++ month ++ year)) →
      ∃ t, acceptBits (day ++ dow ++ month ++ year ++ [p]) s = .next t ∧ t.ds = codeWait ∧ t.par = false ∧
        t.xDay.toNat = (s.xDay.toNat + fieldValue day) % 256 ∧
        t.xMonth.toNat = (s.xMonth.toNat + fieldValue month) % 256 ∧
        t.xYear.toNat = (s.xYear.toNat + fieldValue year) % 256 ∧
        t.xMin = s.xMin ∧ t.xHour = s.xHour ∧ t.ci = s.ci ∧ t.out = s.out ∧ SameBoundary s t) ∧
    (p ≠ (s.par ^^ xorAll (day ++ dow ++ month ++ year)) →
      ∃ t, acceptBits (day ++ dow ++ month ++ year ++ [p]) s = .next t ∧ FailedFrom s [] t)

/-- R202: the clean-frame property. -/
def Obligations.CleanFrameDeliversItsFields : Prop :=
  ∀ mi h d w mo y : Nat, mi ≤ 79 → h ≤ 39 → d ≤ 39 → w ≤ 7 → mo ≤ 19 → y ≤ 99 →
    (∀ s : State, s.ds = codeB 0 → s.par = false → s.xMin = 0 → s.xHour = 0 → s.ci = false →
      ∃ t, acceptBits ((frameBits mi h d w mo y).take 36) s = .next t ∧ t.ds = codeB 36 ∧ t.xMin.toNat = mi ∧
        t.xHour.toNat = h ∧ t.par = false ∧ t.ci = true) ∧
    (∀ s : State, s.ds = codeB 36 → s.par = false → s.xDay = 0 → s.xMonth = 0 → s.xYear = 0 →
      ∃ t, acceptBits ((frameBits mi h d w mo y).drop 36) s = .next t ∧ t.ds = codeWait ∧ t.xDay.toNat = d ∧
        t.xMonth.toNat = mo ∧ t.xYear.toNat = y ∧ t.par = false)

/-- R232, over the agenda, which is the model's choice (log 5); `m` is the length of the start marker (R83, R119). -/
def Obligations.RoundTripDeliversTheDecrementedTime : Prop :=
  ∀ m mi h d w mo y mi2 h2 d2 w2 mo2 y2 : Nat, 1601 ≤ m → m ≤ 1999 →
    mi ≤ 59 → h ≤ 23 → d ≤ 39 → w ≤ 7 → mo ≤ 19 → y ≤ 99 → mi2 ≤ 59 → h2 ≤ 23 → d2 ≤ 39 → w2 ≤ 7 → mo2 ≤ 19 → y2 ≤ 99 →
    ∀ s : State, (∀ f, s.getX f = 0) → s.par = false → s.ci = false → s.midnightRule = .corrected →
      s.agenda = present (wordLow m :: (frameWords mi h d w mo y ++ frameWords mi2 h2 d2 w2 mo2 y2)) →
      ∃ (t1 t : State) (r r2 : RtcRec),
        Host.Core.run Sys2Proof.core 238 s = .next t1 ∧ t1.agenda = present (frameWords mi2 h2 d2 w2 mo2 y2) ∧
        rtcRecords t1.out = rtcRecords s.out ++ [r] ∧
        Host.Core.run Sys2Proof.core 474 s = .next t ∧ t.agenda = [] ∧ rtcRecords t.out = rtcRecords s.out ++ [r, r2] ∧
        TimeOf r mi h s.kdate ∧ TimeOf r2 mi2 h2 s.kdate ∧
        (r.day = s.kdate.day ∧ r.month = s.kdate.month ∧ r.year = s.kdate.year) ∧
        ((r2.minute = 0 ∧ r2.hour = 0) ∨ (d = 0 ∧ mo = 0 ∧ y = 0) →
          r2.day = s.kdate.day ∧ r2.month = s.kdate.month ∧ r2.year = s.kdate.year) ∧
        (¬ ((r2.minute = 0 ∧ r2.hour = 0) ∨ (d = 0 ∧ mo = 0 ∧ y = 0)) →
          r2.day.toNat = d ∧ r2.month.toNat = mo ∧ r2.year.toNat = y)
end

