-- ==== Sys2Proof/Laws/Decode.lean ====
section
/-! SUPPORT. The fields of a packed event word, the classifier as ranges of durations, and case analysis on position codes. -/

namespace Sys2Proof

/-! ## The event word -/

@[simp] theorem EvWord.level_evWord (l : Level) (d : Dur) : (evWord l d).level = l := by
  simp only [EvWord.level, evWord, BitVec.getLsbD_append]
  cases l <;> simp [Level.bit]

@[simp] theorem EvWord.dur_evWord (l : Level) (d : Dur) : (evWord l d).dur = d := by
  apply BitVec.eq_of_getLsbD_eq
  intro i hi
  simp only [EvWord.dur, evWord, BitVec.getLsbD_extractLsb', BitVec.getLsbD_append, Nat.zero_add]
  simp [hi]

/-- Decoding a packed word is the selection of R83 on its two fields. -/
@[simp] theorem decodeEv_evWord (l : Level) (d : Dur) : decodeEv (evWord l d) = decodeEvent l d := by
  simp [decodeEv]

/-- Every word is the packing of its fields. -/
theorem evWord_level_dur (w : EvWord) : evWord w.level w.dur = w := by
  apply BitVec.eq_of_getLsbD_eq
  intro i hi
  simp only [evWord, EvWord.level, EvWord.dur, BitVec.getLsbD_append, BitVec.getLsbD_extractLsb', Nat.zero_add]
  by_cases h : i < 15
  · simp [h]
  · have : i = 15 := by omega
    subst this
    cases hb : w.getLsbD 15 <;> simp [Level.bit]

/-- The decoder reads two bytes as the word they lay out. -/
theorem decode_evBytes (w : EvWord) : decode (evBytes w) = .ok (decodeEv w) := by
  have h : (w.extractLsb' 8 8 ++ w.extractLsb' 0 8 : BitVec 16) = w := by
    apply BitVec.eq_of_getLsbD_eq
    intro i hi
    simp only [BitVec.getLsbD_append, BitVec.getLsbD_extractLsb', Nat.zero_add]
    by_cases h : i < 8
    · simp [h]
    · have e : 8 + (i - 8) = i := by omega
      have : i - 8 < 8 := by omega
      simp [h, e, this]
  simp only [decode, evBytes, h]

/-- The bytes of the word that two bytes lay out are these bytes. -/
theorem evBytes_append (lo hi : Byte) : evBytes (hi ++ lo) = [lo, hi] := by
  have h0 : (hi ++ lo : BitVec 16).extractLsb' 0 8 = lo := by
    apply BitVec.eq_of_getLsbD_eq
    intro i h
    rw [BitVec.getLsbD_extractLsb', BitVec.getLsbD_append]; simp [h]
  have h1 : (hi ++ lo : BitVec 16).extractLsb' 8 8 = hi := by
    apply BitVec.eq_of_getLsbD_eq
    intro i h
    rw [BitVec.getLsbD_extractLsb', BitVec.getLsbD_append]; simp [h]
  rw [evBytes, h0, h1]

/-! ## The classifier -/

/-- A comparison with two constants, as inequalities. -/
theorem Dur.inside_iff (lo hi : Nat) (d : Dur) : d.inside lo hi = true ↔ lo < d.toNat ∧ d.toNat < hi := by
  simp [Dur.inside]

/-- A range of the operation map, as inequalities. -/
theorem Dur.between_iff (lo hi : Nat) (d : Dur) : d.between lo hi = true ↔ lo ≤ d.toNat ∧ d.toNat ≤ hi := by
  simp [Dur.between]

/-! ## Position codes -/

/-- What holds of the 64 numerals holds of every code. -/
theorem Code.of_numerals {P : Code → Prop} (h : ∀ n, n < 64 → P (BitVec.ofNat 6 n)) (c : Code) : P c := by
  have := h c.toNat c.isLt
  rwa [BitVec.ofNat_toNat, BitVec.setWidth_eq] at this

/-- The two fields of a position byte. -/
theorem posByte_fields (c : Code) (b : Bool) :
    (posByte c b).extractLsb' 0 6 = c ∧ (posByte c b).getLsbD 6 = b ∧ (posByte c b).getLsbD 7 = false := by
  refine ⟨?_, by simp only [posByte, BitVec.getLsbD_append]; simp, by simp only [posByte, BitVec.getLsbD_append]; simp⟩
  apply BitVec.eq_of_getLsbD_eq
  intro i hi
  simp only [posByte, BitVec.getLsbD_extractLsb', BitVec.getLsbD_append, Nat.zero_add]
  simp [hi]

/-- The decoder reads a position byte as its position and bit. -/
theorem decode_posByte (c : Code) (b : Bool) : decode [posByte c b] = .ok (decodePos c b) := by
  obtain ⟨h1, h2, h3⟩ := posByte_fields c b
  simp only [decode, h1, h2, h3, Bool.false_eq_true, if_false]

end Sys2Proof
end

