-- ==== Sys2Proof/Laws/State.lean ====
section
/-! SUPPORT. One lemma per field per update of the state, so that later proofs unfold no record update. -/

namespace Sys2Proof.Machine

variable (s : State)

/-! ## setDs -/

@[simp] theorem State.setDs_ds (c : Code) : (s.setDs c).ds = c := rfl
@[simp] theorem State.setDs_xMin (c : Code) : (s.setDs c).xMin = s.xMin := rfl
@[simp] theorem State.setDs_xHour (c : Code) : (s.setDs c).xHour = s.xHour := rfl
@[simp] theorem State.setDs_xDay (c : Code) : (s.setDs c).xDay = s.xDay := rfl
@[simp] theorem State.setDs_xMonth (c : Code) : (s.setDs c).xMonth = s.xMonth := rfl
@[simp] theorem State.setDs_xYear (c : Code) : (s.setDs c).xYear = s.xYear := rfl
@[simp] theorem State.setDs_par (c : Code) : (s.setDs c).par = s.par := rfl
@[simp] theorem State.setDs_ci (c : Code) : (s.setDs c).ci = s.ci := rfl
@[simp] theorem State.setDs_slot (c : Code) : (s.setDs c).slot = s.slot := rfl
@[simp] theorem State.setDs_clk (c : Code) : (s.setDs c).clk = s.clk := rfl
@[simp] theorem State.setDs_kdate (c : Code) : (s.setDs c).kdate = s.kdate := rfl
@[simp] theorem State.setDs_out (c : Code) : (s.setDs c).out = s.out := rfl
@[simp] theorem State.setDs_midnightRule (c : Code) : (s.setDs c).midnightRule = s.midnightRule := rfl
@[simp] theorem State.setDs_agenda (c : Code) : (s.setDs c).agenda = s.agenda := rfl

/-! ## deliver -/

@[simp] theorem State.deliver_ds (o : OutRec) : (s.deliver o).ds = s.ds := rfl
@[simp] theorem State.deliver_xMin (o : OutRec) : (s.deliver o).xMin = s.xMin := rfl
@[simp] theorem State.deliver_xHour (o : OutRec) : (s.deliver o).xHour = s.xHour := rfl
@[simp] theorem State.deliver_xDay (o : OutRec) : (s.deliver o).xDay = s.xDay := rfl
@[simp] theorem State.deliver_xMonth (o : OutRec) : (s.deliver o).xMonth = s.xMonth := rfl
@[simp] theorem State.deliver_xYear (o : OutRec) : (s.deliver o).xYear = s.xYear := rfl
@[simp] theorem State.deliver_par (o : OutRec) : (s.deliver o).par = s.par := rfl
@[simp] theorem State.deliver_ci (o : OutRec) : (s.deliver o).ci = s.ci := rfl
@[simp] theorem State.deliver_slot (o : OutRec) : (s.deliver o).slot = s.slot := rfl
@[simp] theorem State.deliver_clk (o : OutRec) : (s.deliver o).clk = s.clk := rfl
@[simp] theorem State.deliver_kdate (o : OutRec) : (s.deliver o).kdate = s.kdate := rfl
@[simp] theorem State.deliver_out (o : OutRec) : (s.deliver o).out = s.out ++ [o] := rfl
@[simp] theorem State.deliver_midnightRule (o : OutRec) : (s.deliver o).midnightRule = s.midnightRule := rfl
@[simp] theorem State.deliver_agenda (o : OutRec) : (s.deliver o).agenda = s.agenda := rfl

/-! ## takeSlot -/

@[simp] theorem State.takeSlot_ds : (s.takeSlot).ds = s.ds := rfl
@[simp] theorem State.takeSlot_xMin : (s.takeSlot).xMin = s.xMin := rfl
@[simp] theorem State.takeSlot_xHour : (s.takeSlot).xHour = s.xHour := rfl
@[simp] theorem State.takeSlot_xDay : (s.takeSlot).xDay = s.xDay := rfl
@[simp] theorem State.takeSlot_xMonth : (s.takeSlot).xMonth = s.xMonth := rfl
@[simp] theorem State.takeSlot_xYear : (s.takeSlot).xYear = s.xYear := rfl
@[simp] theorem State.takeSlot_par : (s.takeSlot).par = s.par := rfl
@[simp] theorem State.takeSlot_ci : (s.takeSlot).ci = s.ci := rfl
@[simp] theorem State.takeSlot_slot : (s.takeSlot).slot = { s.slot with full := false } := rfl
@[simp] theorem State.takeSlot_clk : (s.takeSlot).clk = s.clk := rfl
@[simp] theorem State.takeSlot_kdate : (s.takeSlot).kdate = s.kdate := rfl
@[simp] theorem State.takeSlot_out : (s.takeSlot).out = s.out := rfl
@[simp] theorem State.takeSlot_midnightRule : (s.takeSlot).midnightRule = s.midnightRule := rfl
@[simp] theorem State.takeSlot_agenda : (s.takeSlot).agenda = s.agenda := rfl

/-! ## captureWrite -/

@[simp] theorem State.captureWrite_ds (l : Level) (d : Dur) : (s.captureWrite l d).ds = s.ds := rfl
@[simp] theorem State.captureWrite_xMin (l : Level) (d : Dur) : (s.captureWrite l d).xMin = s.xMin := rfl
@[simp] theorem State.captureWrite_xHour (l : Level) (d : Dur) : (s.captureWrite l d).xHour = s.xHour := rfl
@[simp] theorem State.captureWrite_xDay (l : Level) (d : Dur) : (s.captureWrite l d).xDay = s.xDay := rfl
@[simp] theorem State.captureWrite_xMonth (l : Level) (d : Dur) : (s.captureWrite l d).xMonth = s.xMonth := rfl
@[simp] theorem State.captureWrite_xYear (l : Level) (d : Dur) : (s.captureWrite l d).xYear = s.xYear := rfl
@[simp] theorem State.captureWrite_par (l : Level) (d : Dur) : (s.captureWrite l d).par = s.par := rfl
@[simp] theorem State.captureWrite_ci (l : Level) (d : Dur) : (s.captureWrite l d).ci = s.ci := rfl
@[simp] theorem State.captureWrite_slot (l : Level) (d : Dur) : (s.captureWrite l d).slot = { full := true, level := l, dur := d } := rfl
@[simp] theorem State.captureWrite_clk (l : Level) (d : Dur) : (s.captureWrite l d).clk = s.clk := rfl
@[simp] theorem State.captureWrite_kdate (l : Level) (d : Dur) : (s.captureWrite l d).kdate = s.kdate := rfl
@[simp] theorem State.captureWrite_out (l : Level) (d : Dur) : (s.captureWrite l d).out = s.out := rfl
@[simp] theorem State.captureWrite_midnightRule (l : Level) (d : Dur) : (s.captureWrite l d).midnightRule = s.midnightRule := rfl
@[simp] theorem State.captureWrite_agenda (l : Level) (d : Dur) : (s.captureWrite l d).agenda = s.agenda := rfl

/-! ## setClk -/

@[simp] theorem State.setClk_ds (k : Clk) : (s.setClk k).ds = s.ds := rfl
@[simp] theorem State.setClk_xMin (k : Clk) : (s.setClk k).xMin = s.xMin := rfl
@[simp] theorem State.setClk_xHour (k : Clk) : (s.setClk k).xHour = s.xHour := rfl
@[simp] theorem State.setClk_xDay (k : Clk) : (s.setClk k).xDay = s.xDay := rfl
@[simp] theorem State.setClk_xMonth (k : Clk) : (s.setClk k).xMonth = s.xMonth := rfl
@[simp] theorem State.setClk_xYear (k : Clk) : (s.setClk k).xYear = s.xYear := rfl
@[simp] theorem State.setClk_par (k : Clk) : (s.setClk k).par = s.par := rfl
@[simp] theorem State.setClk_ci (k : Clk) : (s.setClk k).ci = s.ci := rfl
@[simp] theorem State.setClk_slot (k : Clk) : (s.setClk k).slot = s.slot := rfl
@[simp] theorem State.setClk_clk (k : Clk) : (s.setClk k).clk = k := rfl
@[simp] theorem State.setClk_kdate (k : Clk) : (s.setClk k).kdate = s.kdate := rfl
@[simp] theorem State.setClk_out (k : Clk) : (s.setClk k).out = s.out := rfl
@[simp] theorem State.setClk_midnightRule (k : Clk) : (s.setClk k).midnightRule = s.midnightRule := rfl
@[simp] theorem State.setClk_agenda (k : Clk) : (s.setClk k).agenda = s.agenda := rfl

/-! ## setKDate -/

@[simp] theorem State.setKDate_ds (k : KDate) : (s.setKDate k).ds = s.ds := rfl
@[simp] theorem State.setKDate_xMin (k : KDate) : (s.setKDate k).xMin = s.xMin := rfl
@[simp] theorem State.setKDate_xHour (k : KDate) : (s.setKDate k).xHour = s.xHour := rfl
@[simp] theorem State.setKDate_xDay (k : KDate) : (s.setKDate k).xDay = s.xDay := rfl
@[simp] theorem State.setKDate_xMonth (k : KDate) : (s.setKDate k).xMonth = s.xMonth := rfl
@[simp] theorem State.setKDate_xYear (k : KDate) : (s.setKDate k).xYear = s.xYear := rfl
@[simp] theorem State.setKDate_par (k : KDate) : (s.setKDate k).par = s.par := rfl
@[simp] theorem State.setKDate_ci (k : KDate) : (s.setKDate k).ci = s.ci := rfl
@[simp] theorem State.setKDate_slot (k : KDate) : (s.setKDate k).slot = s.slot := rfl
@[simp] theorem State.setKDate_clk (k : KDate) : (s.setKDate k).clk = s.clk := rfl
@[simp] theorem State.setKDate_kdate (k : KDate) : (s.setKDate k).kdate = k := rfl
@[simp] theorem State.setKDate_out (k : KDate) : (s.setKDate k).out = s.out := rfl
@[simp] theorem State.setKDate_midnightRule (k : KDate) : (s.setKDate k).midnightRule = s.midnightRule := rfl
@[simp] theorem State.setKDate_agenda (k : KDate) : (s.setKDate k).agenda = s.agenda := rfl

/-! ## xorPar -/

@[simp] theorem State.xorPar_ds (b : Bool) : (s.xorPar b).ds = s.ds := rfl
@[simp] theorem State.xorPar_xMin (b : Bool) : (s.xorPar b).xMin = s.xMin := rfl
@[simp] theorem State.xorPar_xHour (b : Bool) : (s.xorPar b).xHour = s.xHour := rfl
@[simp] theorem State.xorPar_xDay (b : Bool) : (s.xorPar b).xDay = s.xDay := rfl
@[simp] theorem State.xorPar_xMonth (b : Bool) : (s.xorPar b).xMonth = s.xMonth := rfl
@[simp] theorem State.xorPar_xYear (b : Bool) : (s.xorPar b).xYear = s.xYear := rfl
@[simp] theorem State.xorPar_par (b : Bool) : (s.xorPar b).par = (s.par ^^ b) := rfl
@[simp] theorem State.xorPar_ci (b : Bool) : (s.xorPar b).ci = s.ci := rfl
@[simp] theorem State.xorPar_slot (b : Bool) : (s.xorPar b).slot = s.slot := rfl
@[simp] theorem State.xorPar_clk (b : Bool) : (s.xorPar b).clk = s.clk := rfl
@[simp] theorem State.xorPar_kdate (b : Bool) : (s.xorPar b).kdate = s.kdate := rfl
@[simp] theorem State.xorPar_out (b : Bool) : (s.xorPar b).out = s.out := rfl
@[simp] theorem State.xorPar_midnightRule (b : Bool) : (s.xorPar b).midnightRule = s.midnightRule := rfl
@[simp] theorem State.xorPar_agenda (b : Bool) : (s.xorPar b).agenda = s.agenda := rfl

/-! ## clearPar -/

@[simp] theorem State.clearPar_ds : (s.clearPar).ds = s.ds := rfl
@[simp] theorem State.clearPar_xMin : (s.clearPar).xMin = s.xMin := rfl
@[simp] theorem State.clearPar_xHour : (s.clearPar).xHour = s.xHour := rfl
@[simp] theorem State.clearPar_xDay : (s.clearPar).xDay = s.xDay := rfl
@[simp] theorem State.clearPar_xMonth : (s.clearPar).xMonth = s.xMonth := rfl
@[simp] theorem State.clearPar_xYear : (s.clearPar).xYear = s.xYear := rfl
@[simp] theorem State.clearPar_par : (s.clearPar).par = false := rfl
@[simp] theorem State.clearPar_ci : (s.clearPar).ci = s.ci := rfl
@[simp] theorem State.clearPar_slot : (s.clearPar).slot = s.slot := rfl
@[simp] theorem State.clearPar_clk : (s.clearPar).clk = s.clk := rfl
@[simp] theorem State.clearPar_kdate : (s.clearPar).kdate = s.kdate := rfl
@[simp] theorem State.clearPar_out : (s.clearPar).out = s.out := rfl
@[simp] theorem State.clearPar_midnightRule : (s.clearPar).midnightRule = s.midnightRule := rfl
@[simp] theorem State.clearPar_agenda : (s.clearPar).agenda = s.agenda := rfl

/-! ## setIntent -/

@[simp] theorem State.setIntent_ds : (s.setIntent).ds = s.ds := rfl
@[simp] theorem State.setIntent_xMin : (s.setIntent).xMin = s.xMin := rfl
@[simp] theorem State.setIntent_xHour : (s.setIntent).xHour = s.xHour := rfl
@[simp] theorem State.setIntent_xDay : (s.setIntent).xDay = s.xDay := rfl
@[simp] theorem State.setIntent_xMonth : (s.setIntent).xMonth = s.xMonth := rfl
@[simp] theorem State.setIntent_xYear : (s.setIntent).xYear = s.xYear := rfl
@[simp] theorem State.setIntent_par : (s.setIntent).par = s.par := rfl
@[simp] theorem State.setIntent_ci : (s.setIntent).ci = true := rfl
@[simp] theorem State.setIntent_slot : (s.setIntent).slot = s.slot := rfl
@[simp] theorem State.setIntent_clk : (s.setIntent).clk = s.clk := rfl
@[simp] theorem State.setIntent_kdate : (s.setIntent).kdate = s.kdate := rfl
@[simp] theorem State.setIntent_out : (s.setIntent).out = s.out := rfl
@[simp] theorem State.setIntent_midnightRule : (s.setIntent).midnightRule = s.midnightRule := rfl
@[simp] theorem State.setIntent_agenda : (s.setIntent).agenda = s.agenda := rfl

/-! ## clearIntent -/

@[simp] theorem State.clearIntent_ds : (s.clearIntent).ds = s.ds := rfl
@[simp] theorem State.clearIntent_xMin : (s.clearIntent).xMin = s.xMin := rfl
@[simp] theorem State.clearIntent_xHour : (s.clearIntent).xHour = s.xHour := rfl
@[simp] theorem State.clearIntent_xDay : (s.clearIntent).xDay = s.xDay := rfl
@[simp] theorem State.clearIntent_xMonth : (s.clearIntent).xMonth = s.xMonth := rfl
@[simp] theorem State.clearIntent_xYear : (s.clearIntent).xYear = s.xYear := rfl
@[simp] theorem State.clearIntent_par : (s.clearIntent).par = s.par := rfl
@[simp] theorem State.clearIntent_ci : (s.clearIntent).ci = false := rfl
@[simp] theorem State.clearIntent_slot : (s.clearIntent).slot = s.slot := rfl
@[simp] theorem State.clearIntent_clk : (s.clearIntent).clk = s.clk := rfl
@[simp] theorem State.clearIntent_kdate : (s.clearIntent).kdate = s.kdate := rfl
@[simp] theorem State.clearIntent_out : (s.clearIntent).out = s.out := rfl
@[simp] theorem State.clearIntent_midnightRule : (s.clearIntent).midnightRule = s.midnightRule := rfl
@[simp] theorem State.clearIntent_agenda : (s.clearIntent).agenda = s.agenda := rfl

/-! ## clearFrame -/

@[simp] theorem State.clearFrame_ds : (s.clearFrame).ds = 0 := rfl
@[simp] theorem State.clearFrame_xMin : (s.clearFrame).xMin = 0 := rfl
@[simp] theorem State.clearFrame_xHour : (s.clearFrame).xHour = 0 := rfl
@[simp] theorem State.clearFrame_xDay : (s.clearFrame).xDay = 0 := rfl
@[simp] theorem State.clearFrame_xMonth : (s.clearFrame).xMonth = 0 := rfl
@[simp] theorem State.clearFrame_xYear : (s.clearFrame).xYear = 0 := rfl
@[simp] theorem State.clearFrame_par : (s.clearFrame).par = false := rfl
@[simp] theorem State.clearFrame_ci : (s.clearFrame).ci = false := rfl
@[simp] theorem State.clearFrame_slot : (s.clearFrame).slot = s.slot := rfl
@[simp] theorem State.clearFrame_clk : (s.clearFrame).clk = s.clk := rfl
@[simp] theorem State.clearFrame_kdate : (s.clearFrame).kdate = s.kdate := rfl
@[simp] theorem State.clearFrame_out : (s.clearFrame).out = s.out := rfl
@[simp] theorem State.clearFrame_midnightRule : (s.clearFrame).midnightRule = s.midnightRule := rfl
@[simp] theorem State.clearFrame_agenda : (s.clearFrame).agenda = s.agenda := rfl

/-! ## emit -/

@[simp] theorem State.emit_ds (e : DiagCode) (d : Dur) : (s.emit e d).ds = s.ds := rfl
@[simp] theorem State.emit_xMin (e : DiagCode) (d : Dur) : (s.emit e d).xMin = s.xMin := rfl
@[simp] theorem State.emit_xHour (e : DiagCode) (d : Dur) : (s.emit e d).xHour = s.xHour := rfl
@[simp] theorem State.emit_xDay (e : DiagCode) (d : Dur) : (s.emit e d).xDay = s.xDay := rfl
@[simp] theorem State.emit_xMonth (e : DiagCode) (d : Dur) : (s.emit e d).xMonth = s.xMonth := rfl
@[simp] theorem State.emit_xYear (e : DiagCode) (d : Dur) : (s.emit e d).xYear = s.xYear := rfl
@[simp] theorem State.emit_par (e : DiagCode) (d : Dur) : (s.emit e d).par = s.par := rfl
@[simp] theorem State.emit_ci (e : DiagCode) (d : Dur) : (s.emit e d).ci = s.ci := rfl
@[simp] theorem State.emit_slot (e : DiagCode) (d : Dur) : (s.emit e d).slot = s.slot := rfl
@[simp] theorem State.emit_clk (e : DiagCode) (d : Dur) : (s.emit e d).clk = s.clk := rfl
@[simp] theorem State.emit_kdate (e : DiagCode) (d : Dur) : (s.emit e d).kdate = s.kdate := rfl
@[simp] theorem State.emit_out (e : DiagCode) (d : Dur) : (s.emit e d).out = s.out ++ [.diag { code := e, dur := d }] := rfl
@[simp] theorem State.emit_midnightRule (e : DiagCode) (d : Dur) : (s.emit e d).midnightRule = s.midnightRule := rfl
@[simp] theorem State.emit_agenda (e : DiagCode) (d : Dur) : (s.emit e d).agenda = s.agenda := rfl

/-! ## writeRtc -/

@[simp] theorem State.writeRtc_ds (r : RtcRec) : (s.writeRtc r).ds = s.ds := rfl
@[simp] theorem State.writeRtc_xMin (r : RtcRec) : (s.writeRtc r).xMin = s.xMin := rfl
@[simp] theorem State.writeRtc_xHour (r : RtcRec) : (s.writeRtc r).xHour = s.xHour := rfl
@[simp] theorem State.writeRtc_xDay (r : RtcRec) : (s.writeRtc r).xDay = s.xDay := rfl
@[simp] theorem State.writeRtc_xMonth (r : RtcRec) : (s.writeRtc r).xMonth = s.xMonth := rfl
@[simp] theorem State.writeRtc_xYear (r : RtcRec) : (s.writeRtc r).xYear = s.xYear := rfl
@[simp] theorem State.writeRtc_par (r : RtcRec) : (s.writeRtc r).par = s.par := rfl
@[simp] theorem State.writeRtc_ci (r : RtcRec) : (s.writeRtc r).ci = s.ci := rfl
@[simp] theorem State.writeRtc_slot (r : RtcRec) : (s.writeRtc r).slot = s.slot := rfl
@[simp] theorem State.writeRtc_clk (r : RtcRec) : (s.writeRtc r).clk = s.clk := rfl
@[simp] theorem State.writeRtc_kdate (r : RtcRec) : (s.writeRtc r).kdate = s.kdate := rfl
@[simp] theorem State.writeRtc_out (r : RtcRec) : (s.writeRtc r).out = s.out ++ [.rtc r] := rfl
@[simp] theorem State.writeRtc_midnightRule (r : RtcRec) : (s.writeRtc r).midnightRule = s.midnightRule := rfl
@[simp] theorem State.writeRtc_agenda (r : RtcRec) : (s.writeRtc r).agenda = s.agenda := rfl

/-! ## writeClk -/

@[simp] theorem State.writeClk_ds (r : ClkRec) : (s.writeClk r).ds = s.ds := rfl
@[simp] theorem State.writeClk_xMin (r : ClkRec) : (s.writeClk r).xMin = s.xMin := rfl
@[simp] theorem State.writeClk_xHour (r : ClkRec) : (s.writeClk r).xHour = s.xHour := rfl
@[simp] theorem State.writeClk_xDay (r : ClkRec) : (s.writeClk r).xDay = s.xDay := rfl
@[simp] theorem State.writeClk_xMonth (r : ClkRec) : (s.writeClk r).xMonth = s.xMonth := rfl
@[simp] theorem State.writeClk_xYear (r : ClkRec) : (s.writeClk r).xYear = s.xYear := rfl
@[simp] theorem State.writeClk_par (r : ClkRec) : (s.writeClk r).par = s.par := rfl
@[simp] theorem State.writeClk_ci (r : ClkRec) : (s.writeClk r).ci = s.ci := rfl
@[simp] theorem State.writeClk_slot (r : ClkRec) : (s.writeClk r).slot = s.slot := rfl
@[simp] theorem State.writeClk_clk (r : ClkRec) : (s.writeClk r).clk = s.clk.update r := rfl
@[simp] theorem State.writeClk_kdate (r : ClkRec) : (s.writeClk r).kdate = s.kdate := rfl
@[simp] theorem State.writeClk_out (r : ClkRec) : (s.writeClk r).out = s.out ++ [.clk r] := rfl
@[simp] theorem State.writeClk_midnightRule (r : ClkRec) : (s.writeClk r).midnightRule = s.midnightRule := rfl
@[simp] theorem State.writeClk_agenda (r : ClkRec) : (s.writeClk r).agenda = s.agenda := rfl

/-! ## clearAccumulators -/

@[simp] theorem clearAccumulators_ds : (clearAccumulators s).ds = s.ds := rfl
@[simp] theorem clearAccumulators_xMin : (clearAccumulators s).xMin = 0 := rfl
@[simp] theorem clearAccumulators_xHour : (clearAccumulators s).xHour = 0 := rfl
@[simp] theorem clearAccumulators_xDay : (clearAccumulators s).xDay = 0 := rfl
@[simp] theorem clearAccumulators_xMonth : (clearAccumulators s).xMonth = 0 := rfl
@[simp] theorem clearAccumulators_xYear : (clearAccumulators s).xYear = 0 := rfl
@[simp] theorem clearAccumulators_par : (clearAccumulators s).par = s.par := rfl
@[simp] theorem clearAccumulators_ci : (clearAccumulators s).ci = s.ci := rfl
@[simp] theorem clearAccumulators_slot : (clearAccumulators s).slot = s.slot := rfl
@[simp] theorem clearAccumulators_clk : (clearAccumulators s).clk = s.clk := rfl
@[simp] theorem clearAccumulators_kdate : (clearAccumulators s).kdate = s.kdate := rfl
@[simp] theorem clearAccumulators_out : (clearAccumulators s).out = s.out := rfl
@[simp] theorem clearAccumulators_midnightRule : (clearAccumulators s).midnightRule = s.midnightRule := rfl
@[simp] theorem clearAccumulators_agenda : (clearAccumulators s).agenda = s.agenda := rfl

/-! ## The accumulators by name -/

@[simp] theorem State.setX_ds (f : Field) (v : Val) : (s.setX f v).ds = s.ds := by cases f <;> rfl
@[simp] theorem State.setX_par (f : Field) (v : Val) : (s.setX f v).par = s.par := by cases f <;> rfl
@[simp] theorem State.setX_ci (f : Field) (v : Val) : (s.setX f v).ci = s.ci := by cases f <;> rfl
@[simp] theorem State.setX_slot (f : Field) (v : Val) : (s.setX f v).slot = s.slot := by cases f <;> rfl
@[simp] theorem State.setX_clk (f : Field) (v : Val) : (s.setX f v).clk = s.clk := by cases f <;> rfl
@[simp] theorem State.setX_kdate (f : Field) (v : Val) : (s.setX f v).kdate = s.kdate := by cases f <;> rfl
@[simp] theorem State.setX_out (f : Field) (v : Val) : (s.setX f v).out = s.out := by cases f <;> rfl
@[simp] theorem State.setX_midnightRule (f : Field) (v : Val) : (s.setX f v).midnightRule = s.midnightRule := by cases f <;> rfl
@[simp] theorem State.setX_agenda (f : Field) (v : Val) : (s.setX f v).agenda = s.agenda := by cases f <;> rfl

/-- A write of `x[f]` is what a read of `x[f]` gives. -/
@[simp] theorem State.getX_setX_same (f : Field) (v : Val) : (s.setX f v).getX f = v := by cases f <;> rfl

/-- A write of `x[f]` leaves every other accumulator alone. -/
theorem State.getX_setX_other {f g : Field} (v : Val) (h : g ≠ f) : (s.setX f v).getX g = s.getX g := by
  cases f <;> cases g <;> first | rfl | exact absurd rfl h

@[simp] theorem State.getX_setDs (f : Field) (c : Code) : (s.setDs c).getX f = s.getX f := by cases f <;> rfl
@[simp] theorem State.getX_deliver (f : Field) (o : OutRec) : (s.deliver o).getX f = s.getX f := by cases f <;> rfl
@[simp] theorem State.getX_takeSlot (f : Field) : (s.takeSlot).getX f = s.getX f := by cases f <;> rfl
@[simp] theorem State.getX_captureWrite (f : Field) (l : Level) (d : Dur) : (s.captureWrite l d).getX f = s.getX f := by cases f <;> rfl
@[simp] theorem State.getX_setClk (f : Field) (k : Clk) : (s.setClk k).getX f = s.getX f := by cases f <;> rfl
@[simp] theorem State.getX_setKDate (f : Field) (k : KDate) : (s.setKDate k).getX f = s.getX f := by cases f <;> rfl
@[simp] theorem State.getX_xorPar (f : Field) (b : Bool) : (s.xorPar b).getX f = s.getX f := by cases f <;> rfl
@[simp] theorem State.getX_clearPar (f : Field) : (s.clearPar).getX f = s.getX f := by cases f <;> rfl
@[simp] theorem State.getX_setIntent (f : Field) : (s.setIntent).getX f = s.getX f := by cases f <;> rfl
@[simp] theorem State.getX_clearIntent (f : Field) : (s.clearIntent).getX f = s.getX f := by cases f <;> rfl
@[simp] theorem State.getX_clearFrame (f : Field) : (s.clearFrame).getX f = 0 := by cases f <;> rfl
@[simp] theorem State.getX_emit (f : Field) (e : DiagCode) (d : Dur) : (s.emit e d).getX f = s.getX f := by cases f <;> rfl
@[simp] theorem State.getX_writeRtc (f : Field) (r : RtcRec) : (s.writeRtc r).getX f = s.getX f := by cases f <;> rfl
@[simp] theorem State.getX_writeClk (f : Field) (r : ClkRec) : (s.writeClk r).getX f = s.getX f := by cases f <;> rfl
@[simp] theorem getX_clearAccumulators (f : Field) : (clearAccumulators s).getX f = 0 := by cases f <;> rfl

end Sys2Proof.Machine
end

