-- ==== Sys2Proof/Laws/Ops.lean ====
section
/-! SUPPORT. What each shared operation can do, said once: FailureRecovery, the start marker, `Commit` and its check, and the
class rules. -/

namespace Sys2Proof.Machine

variable (s : State)

/-! ## FailureRecovery and the start marker -/

/-- R240: the fields FailureRecovery leaves. -/
theorem failRecovery_eq (k : FailKind) :
    failRecovery k s =
      { s.clearFrame with out := s.out ++ [.diag { code := .onReadFailed, dur := 0 }] } := rfl

/-- R130: the fields the start marker leaves. -/
theorem acceptStartMarker_eq :
    acceptStartMarker s = { s with ds := 1, out := s.out ++ [.diag { code := .onReadStarted, dur := 0 }] } := rfl

/-! ## Commit -/

/-- R220: the records `Commit` delivers. -/
def commitOutputs : List OutRec :=
  [ .rtc (commitRecord s), .clk (mirrorRecord (dateCommit s) (commitRecord s))
  , .diag { code := .onSignalCommitted, dur := 0 } ]

/-- R220: the fields `Commit` leaves. -/
theorem commit_eq :
    commit s =
      { s with
        xMin := 0, xHour := 0, xDay := 0, xMonth := 0, xYear := 0, ci := false
        clk := s.clk.update (mirrorRecord (dateCommit s) (commitRecord s))
        out := s.out ++ commitOutputs s } := by
  simp [commit, clearAccumulators, State.clearIntent, State.emit, State.deliver, State.writeClk, State.writeRtc,
    commitOutputs]

/-- R116: the commit check is `Commit` or nothing. -/
theorem commitCheck_cases : (s.ci = true ∧ commitCheck s = commit s) ∨ (s.ci = false ∧ commitCheck s = s) := by
  cases h : s.ci <;> simp [commitCheck, h]

/-! ## The class rules -/

/-- R9: adding a weight, as a value of each accumulator. -/
theorem getX_addWeight (f g : Field) (w : Val) (b : Bool) :
    (addWeight f w b s).getX g = if b = true ∧ g = f then s.getX g + w else s.getX g := by
  cases b
  · simp [addWeight]
  · by_cases h : g = f
    · subst h; simp [addWeight]
    · simp [addWeight, h, State.getX_setX_other s _ h]

/-- R134: what a weighted position leaves besides the accumulators. -/
theorem acceptWeighted_others (f : Field) (w : Val) (n : Code) (b : Bool) :
    (acceptWeighted f w n b s).ds = n ∧ (acceptWeighted f w n b s).par = (s.par ^^ b) ∧
    (acceptWeighted f w n b s).ci = s.ci ∧ (acceptWeighted f w n b s).slot = s.slot ∧
    (acceptWeighted f w n b s).clk = s.clk ∧ (acceptWeighted f w n b s).kdate = s.kdate ∧
    (acceptWeighted f w n b s).out = s.out ∧ (acceptWeighted f w n b s).midnightRule = s.midnightRule ∧
    (acceptWeighted f w n b s).agenda = s.agenda := by
  cases b <;> simp [acceptWeighted, addWeight]

/-- R134: what a weighted position leaves in the accumulators. -/
theorem getX_acceptWeighted (f g : Field) (w : Val) (n : Code) (b : Bool) :
    (acceptWeighted f w n b s).getX g = if b = true ∧ g = f then s.getX g + w else s.getX g := by
  simp [acceptWeighted, getX_addWeight]

/-- R136: a parity check passes and advances, or fails. -/
theorem acceptParity_cases (n : Code) (b : Bool) :
    (s.par = b ∧ acceptParity n b s = s.clearPar.setDs n) ∨
    (s.par ≠ b ∧ acceptParity n b s = failRecovery .checksum s) := by
  by_cases h : s.par = b <;> simp [acceptParity, State.parityMatches, h]

/-- R136, R176: the hour-parity check passes, advances and sets `ci`, or fails. -/
theorem acceptHourParity_cases (n : Code) (b : Bool) :
    (s.par = b ∧ acceptHourParity n b s = s.clearPar.setIntent.setDs n) ∨
    (s.par ≠ b ∧ acceptHourParity n b s = failRecovery .checksum s) := by
  by_cases h : s.par = b <;> simp [acceptHourParity, State.parityMatches, h]

end Sys2Proof.Machine
end

