-- ==== Sys2Proof/Laws/PerInstr.lean ====
section
/-! SUPPORT. Per-instruction facts about the encoding: an operation is encoded in two bytes, or in one byte whose bit 7 is
clear, the two forms the decoder accepts. -/

namespace Sys2Proof.Laws.EncodedForm

def Statement (i : Instr) : Prop :=
  (encode i).length = 2 ∨ ∃ p : Byte, encode i = [p] ∧ p.getLsbD 7 = false

/-- Bit 7 of a position byte is clear. -/
theorem posByte_bit7 (c : Code) (b : Bool) : (posByte c b).getLsbD 7 = false := by
  simp only [posByte, BitVec.getLsbD_append]; simp

theorem highZero (dur : Dur) : Statement (.highZero dur) := .inl rfl
theorem highOne (dur : Dur) : Statement (.highOne dur) := .inl rfl
theorem highInvalid (dur : Dur) : Statement (.highInvalid dur) := .inl rfl
theorem lowStart (dur : Dur) : Statement (.lowStart dur) := .inl rfl
theorem lowOrdinary (dur : Dur) : Statement (.lowOrdinary dur) := .inl rfl
theorem posWait (b : Bool) : Statement (.posWait b) := .inr ⟨_, rfl, posByte_bit7 _ b⟩
theorem posB0 (b : Bool) : Statement (.posB0 b) := .inr ⟨_, rfl, posByte_bit7 _ b⟩
theorem posB1 (b : Bool) : Statement (.posB1 b) := .inr ⟨_, rfl, posByte_bit7 _ b⟩
theorem posB2 (b : Bool) : Statement (.posB2 b) := .inr ⟨_, rfl, posByte_bit7 _ b⟩
theorem posB3 (b : Bool) : Statement (.posB3 b) := .inr ⟨_, rfl, posByte_bit7 _ b⟩
theorem posB4 (b : Bool) : Statement (.posB4 b) := .inr ⟨_, rfl, posByte_bit7 _ b⟩
theorem posB5 (b : Bool) : Statement (.posB5 b) := .inr ⟨_, rfl, posByte_bit7 _ b⟩
theorem posB6 (b : Bool) : Statement (.posB6 b) := .inr ⟨_, rfl, posByte_bit7 _ b⟩
theorem posB7 (b : Bool) : Statement (.posB7 b) := .inr ⟨_, rfl, posByte_bit7 _ b⟩
theorem posB8 (b : Bool) : Statement (.posB8 b) := .inr ⟨_, rfl, posByte_bit7 _ b⟩
theorem posB9 (b : Bool) : Statement (.posB9 b) := .inr ⟨_, rfl, posByte_bit7 _ b⟩
theorem posB10 (b : Bool) : Statement (.posB10 b) := .inr ⟨_, rfl, posByte_bit7 _ b⟩
theorem posB11 (b : Bool) : Statement (.posB11 b) := .inr ⟨_, rfl, posByte_bit7 _ b⟩
theorem posB12 (b : Bool) : Statement (.posB12 b) := .inr ⟨_, rfl, posByte_bit7 _ b⟩
theorem posB13 (b : Bool) : Statement (.posB13 b) := .inr ⟨_, rfl, posByte_bit7 _ b⟩
theorem posB14 (b : Bool) : Statement (.posB14 b) := .inr ⟨_, rfl, posByte_bit7 _ b⟩
theorem posB15 (b : Bool) : Statement (.posB15 b) := .inr ⟨_, rfl, posByte_bit7 _ b⟩
theorem posB16 (b : Bool) : Statement (.posB16 b) := .inr ⟨_, rfl, posByte_bit7 _ b⟩
theorem posB17 (b : Bool) : Statement (.posB17 b) := .inr ⟨_, rfl, posByte_bit7 _ b⟩
theorem posB18 (b : Bool) : Statement (.posB18 b) := .inr ⟨_, rfl, posByte_bit7 _ b⟩
theorem posB19 (b : Bool) : Statement (.posB19 b) := .inr ⟨_, rfl, posByte_bit7 _ b⟩
theorem posB20 (b : Bool) : Statement (.posB20 b) := .inr ⟨_, rfl, posByte_bit7 _ b⟩
theorem posB21 (b : Bool) : Statement (.posB21 b) := .inr ⟨_, rfl, posByte_bit7 _ b⟩
theorem posB22 (b : Bool) : Statement (.posB22 b) := .inr ⟨_, rfl, posByte_bit7 _ b⟩
theorem posB23 (b : Bool) : Statement (.posB23 b) := .inr ⟨_, rfl, posByte_bit7 _ b⟩
theorem posB24 (b : Bool) : Statement (.posB24 b) := .inr ⟨_, rfl, posByte_bit7 _ b⟩
theorem posB25 (b : Bool) : Statement (.posB25 b) := .inr ⟨_, rfl, posByte_bit7 _ b⟩
theorem posB26 (b : Bool) : Statement (.posB26 b) := .inr ⟨_, rfl, posByte_bit7 _ b⟩
theorem posB27 (b : Bool) : Statement (.posB27 b) := .inr ⟨_, rfl, posByte_bit7 _ b⟩
theorem posB28 (b : Bool) : Statement (.posB28 b) := .inr ⟨_, rfl, posByte_bit7 _ b⟩
theorem posB29 (b : Bool) : Statement (.posB29 b) := .inr ⟨_, rfl, posByte_bit7 _ b⟩
theorem posB30 (b : Bool) : Statement (.posB30 b) := .inr ⟨_, rfl, posByte_bit7 _ b⟩
theorem posB31 (b : Bool) : Statement (.posB31 b) := .inr ⟨_, rfl, posByte_bit7 _ b⟩
theorem posB32 (b : Bool) : Statement (.posB32 b) := .inr ⟨_, rfl, posByte_bit7 _ b⟩
theorem posB33 (b : Bool) : Statement (.posB33 b) := .inr ⟨_, rfl, posByte_bit7 _ b⟩
theorem posB34 (b : Bool) : Statement (.posB34 b) := .inr ⟨_, rfl, posByte_bit7 _ b⟩
theorem posB35 (b : Bool) : Statement (.posB35 b) := .inr ⟨_, rfl, posByte_bit7 _ b⟩
theorem posB36 (b : Bool) : Statement (.posB36 b) := .inr ⟨_, rfl, posByte_bit7 _ b⟩
theorem posB37 (b : Bool) : Statement (.posB37 b) := .inr ⟨_, rfl, posByte_bit7 _ b⟩
theorem posB38 (b : Bool) : Statement (.posB38 b) := .inr ⟨_, rfl, posByte_bit7 _ b⟩
theorem posB39 (b : Bool) : Statement (.posB39 b) := .inr ⟨_, rfl, posByte_bit7 _ b⟩
theorem posB40 (b : Bool) : Statement (.posB40 b) := .inr ⟨_, rfl, posByte_bit7 _ b⟩
theorem posB41 (b : Bool) : Statement (.posB41 b) := .inr ⟨_, rfl, posByte_bit7 _ b⟩
theorem posB42 (b : Bool) : Statement (.posB42 b) := .inr ⟨_, rfl, posByte_bit7 _ b⟩
theorem posB43 (b : Bool) : Statement (.posB43 b) := .inr ⟨_, rfl, posByte_bit7 _ b⟩
theorem posB44 (b : Bool) : Statement (.posB44 b) := .inr ⟨_, rfl, posByte_bit7 _ b⟩
theorem posB45 (b : Bool) : Statement (.posB45 b) := .inr ⟨_, rfl, posByte_bit7 _ b⟩
theorem posB46 (b : Bool) : Statement (.posB46 b) := .inr ⟨_, rfl, posByte_bit7 _ b⟩
theorem posB47 (b : Bool) : Statement (.posB47 b) := .inr ⟨_, rfl, posByte_bit7 _ b⟩
theorem posB48 (b : Bool) : Statement (.posB48 b) := .inr ⟨_, rfl, posByte_bit7 _ b⟩
theorem posB49 (b : Bool) : Statement (.posB49 b) := .inr ⟨_, rfl, posByte_bit7 _ b⟩
theorem posB50 (b : Bool) : Statement (.posB50 b) := .inr ⟨_, rfl, posByte_bit7 _ b⟩
theorem posB51 (b : Bool) : Statement (.posB51 b) := .inr ⟨_, rfl, posByte_bit7 _ b⟩
theorem posB52 (b : Bool) : Statement (.posB52 b) := .inr ⟨_, rfl, posByte_bit7 _ b⟩
theorem posB53 (b : Bool) : Statement (.posB53 b) := .inr ⟨_, rfl, posByte_bit7 _ b⟩
theorem posB54 (b : Bool) : Statement (.posB54 b) := .inr ⟨_, rfl, posByte_bit7 _ b⟩
theorem posB55 (b : Bool) : Statement (.posB55 b) := .inr ⟨_, rfl, posByte_bit7 _ b⟩
theorem posB56 (b : Bool) : Statement (.posB56 b) := .inr ⟨_, rfl, posByte_bit7 _ b⟩
theorem posB57 (b : Bool) : Statement (.posB57 b) := .inr ⟨_, rfl, posByte_bit7 _ b⟩
theorem posB58 (b : Bool) : Statement (.posB58 b) := .inr ⟨_, rfl, posByte_bit7 _ b⟩
theorem posSpare (b : Bool) : Statement (.posSpare b) := .inr ⟨_, rfl, posByte_bit7 _ b⟩
theorem posUndef61 (b : Bool) : Statement (.posUndef61 b) := .inr ⟨_, rfl, posByte_bit7 _ b⟩
theorem posUndef62 (b : Bool) : Statement (.posUndef62 b) := .inr ⟨_, rfl, posByte_bit7 _ b⟩
theorem posUndef63 (b : Bool) : Statement (.posUndef63 b) := .inr ⟨_, rfl, posByte_bit7 _ b⟩

end Sys2Proof.Laws.EncodedForm
end

