-- ==== Sys2Proof/Laws/TwoLevel.lean ====
section
/-! SUPPORT. The two levels of the table: every instruction is an event-word operation or the position rule of a code, so that
a proof about all instructions has six cases and not one per constructor. -/

namespace Sys2Proof

/-- The two levels of the operation map (R83, R86). -/
inductive TwoLevel : Instr → Prop where
  | highZero (d : Dur) : TwoLevel (.highZero d)
  | highOne (d : Dur) : TwoLevel (.highOne d)
  | highInvalid (d : Dur) : TwoLevel (.highInvalid d)
  | lowStart (d : Dur) : TwoLevel (.lowStart d)
  | lowOrdinary (d : Dur) : TwoLevel (.lowOrdinary d)
  | position (c : Code) (b : Bool) : TwoLevel (decodePos c b)

theorem Instr.twoLevel (i : Instr) : TwoLevel i := by
  cases i with
  | highZero d => exact .highZero d
  | highOne d => exact .highOne d
  | highInvalid d => exact .highInvalid d
  | lowStart d => exact .lowStart d
  | lowOrdinary d => exact .lowOrdinary d
  | posWait b => exact .position 0 b
  | posB0 b => exact .position 1 b
  | posB1 b => exact .position 2 b
  | posB2 b => exact .position 3 b
  | posB3 b => exact .position 4 b
  | posB4 b => exact .position 5 b
  | posB5 b => exact .position 6 b
  | posB6 b => exact .position 7 b
  | posB7 b => exact .position 8 b
  | posB8 b => exact .position 9 b
  | posB9 b => exact .position 10 b
  | posB10 b => exact .position 11 b
  | posB11 b => exact .position 12 b
  | posB12 b => exact .position 13 b
  | posB13 b => exact .position 14 b
  | posB14 b => exact .position 15 b
  | posB15 b => exact .position 16 b
  | posB16 b => exact .position 17 b
  | posB17 b => exact .position 18 b
  | posB18 b => exact .position 19 b
  | posB19 b => exact .position 20 b
  | posB20 b => exact .position 21 b
  | posB21 b => exact .position 22 b
  | posB22 b => exact .position 23 b
  | posB23 b => exact .position 24 b
  | posB24 b => exact .position 25 b
  | posB25 b => exact .position 26 b
  | posB26 b => exact .position 27 b
  | posB27 b => exact .position 28 b
  | posB28 b => exact .position 29 b
  | posB29 b => exact .position 30 b
  | posB30 b => exact .position 31 b
  | posB31 b => exact .position 32 b
  | posB32 b => exact .position 33 b
  | posB33 b => exact .position 34 b
  | posB34 b => exact .position 35 b
  | posB35 b => exact .position 36 b
  | posB36 b => exact .position 37 b
  | posB37 b => exact .position 38 b
  | posB38 b => exact .position 39 b
  | posB39 b => exact .position 40 b
  | posB40 b => exact .position 41 b
  | posB41 b => exact .position 42 b
  | posB42 b => exact .position 43 b
  | posB43 b => exact .position 44 b
  | posB44 b => exact .position 45 b
  | posB45 b => exact .position 46 b
  | posB46 b => exact .position 47 b
  | posB47 b => exact .position 48 b
  | posB48 b => exact .position 49 b
  | posB49 b => exact .position 50 b
  | posB50 b => exact .position 51 b
  | posB51 b => exact .position 52 b
  | posB52 b => exact .position 53 b
  | posB53 b => exact .position 54 b
  | posB54 b => exact .position 55 b
  | posB55 b => exact .position 56 b
  | posB56 b => exact .position 57 b
  | posB57 b => exact .position 58 b
  | posB58 b => exact .position 59 b
  | posSpare b => exact .position 60 b
  | posUndef61 b => exact .position 61 b
  | posUndef62 b => exact .position 62 b
  | posUndef63 b => exact .position 63 b

/-- The encoding of a decoded position, which is well formed. -/
theorem encode_decodePos (c : Code) (b : Bool) :
    encode (decodePos c b) = [posByte c b] ∧ (decodePos c b).wf = true := by
  revert c
  refine Code.of_numerals fun n hn => ?_
  interval_cases n <;> exact ⟨rfl, rfl⟩

end Sys2Proof
end

