-- ==== Sys2Proof/Laws/Step.lean ====
section
/-! SUPPORT. `AcceptBit` as the second-level dispatch, what a position rule can do, and what an event-word operation is, said
once for every proof about a step. -/

namespace Sys2Proof.Machine

/-- R131: `AcceptBit` runs the position rule that the decoder selects. -/
theorem acceptAt_eq_exec (c : Code) (b : Bool) (s : State) : acceptAt c b s = exec (decodePos c b) s := by
  revert c
  refine Code.of_numerals fun n hn => ?_
  interval_cases n <;> rfl

theorem acceptBit_eq_exec (b : Bool) (s : State) : acceptBit b s = exec (decodePos s.ds b) s :=
  acceptAt_eq_exec s.ds b s

/-- The fields no position rule touches. -/
structure SameOutside (s t : State) : Prop where
  slot : t.slot = s.slot
  clk : t.clk = s.clk
  kdate : t.kdate = s.kdate
  midnightRule : t.midnightRule = s.midnightRule
  agenda : t.agenda = s.agenda

theorem SameOutside.refl (s : State) : SameOutside s s := ⟨rfl, rfl, rfl, rfl, rfl⟩

theorem SameOutside.trans {s t u : State} (h : SameOutside s t) (k : SameOutside t u) : SameOutside s u :=
  ⟨k.slot.trans h.slot, k.clk.trans h.clk, k.kdate.trans h.kdate, k.midnightRule.trans h.midnightRule,
    k.agenda.trans h.agenda⟩

/-- What the position rule of code `c` can do (R23, R131): ignore the bit at `WAIT`, advance to the next position with nothing
delivered, or fail. -/
inductive AcceptCase (c : Code) (s t : State) : Prop where
  | ignored (hc : c.toNat = 0) (ht : t = s)
  | advanced (lo : 1 ≤ c.toNat) (hi : c.toNat ≤ 59) (ds : t.ds.toNat = (c.toNat + 1) % 60) (out : t.out = s.out)
      (ci : t.ci = (s.ci || decide (c.toNat = 36))) (same : SameOutside s t)
  | failed (hc : c.toNat ≠ 0) (k : FailKind) (ht : t = failRecovery k s)

theorem AcceptCase.weighted {c : Code} {s : State} (f : Field) (w : Val) (n : Code) (b : Bool) (lo : 1 ≤ c.toNat)
    (hi : c.toNat ≤ 59) (h36 : c.toNat ≠ 36) (hn : n.toNat = (c.toNat + 1) % 60) :
    AcceptCase c s (acceptWeighted f w n b s) := by
  obtain ⟨h1, -, h3, h4, h5, h6, h7, h8, h9⟩ := acceptWeighted_others s f w n b
  exact .advanced lo hi (by rw [h1, hn]) h7 (by simp [h3, h36]) ⟨h4, h5, h6, h8, h9⟩

theorem AcceptCase.ignorable {c : Code} {s : State} (n : Code) (b : Bool) (lo : 1 ≤ c.toNat)
    (hi : c.toNat ≤ 59) (h36 : c.toNat ≠ 36) (hn : n.toNat = (c.toNat + 1) % 60) :
    AcceptCase c s (acceptIgnorable n b s) :=
  .advanced lo hi hn rfl (by simp [acceptIgnorable, h36]) ⟨rfl, rfl, rfl, rfl, rfl⟩

theorem AcceptCase.discarded {c : Code} {s : State} (n : Code) (b : Bool) (lo : 1 ≤ c.toNat)
    (hi : c.toNat ≤ 59) (h36 : c.toNat ≠ 36) (hn : n.toNat = (c.toNat + 1) % 60) :
    AcceptCase c s (acceptDiscarded n b s) :=
  .advanced lo hi hn rfl (by simp [acceptDiscarded, h36]) ⟨rfl, rfl, rfl, rfl, rfl⟩

theorem AcceptCase.fixed {c : Code} {s : State} (n : Code) (b : Bool) (lo : 1 ≤ c.toNat)
    (hi : c.toNat ≤ 59) (h36 : c.toNat ≠ 36) (hn : n.toNat = (c.toNat + 1) % 60) :
    AcceptCase c s (acceptFixed n b s) := by
  cases b
  · exact .failed (by omega) .structural rfl
  · exact .advanced lo hi hn rfl (by simp [acceptFixed, h36]) ⟨rfl, rfl, rfl, rfl, rfl⟩

theorem AcceptCase.parity {c : Code} {s : State} (n : Code) (b : Bool) (lo : 1 ≤ c.toNat)
    (hi : c.toNat ≤ 59) (h36 : c.toNat ≠ 36) (hn : n.toNat = (c.toNat + 1) % 60) :
    AcceptCase c s (acceptParity n b s) := by
  obtain ⟨-, h⟩ | ⟨-, h⟩ := acceptParity_cases s n b
  · rw [h]; exact .advanced lo hi hn rfl (by simp [h36]) ⟨rfl, rfl, rfl, rfl, rfl⟩
  · exact .failed (by omega) _ h

theorem AcceptCase.hourParity {c : Code} {s : State} (n : Code) (b : Bool) (h36 : c.toNat = 36)
    (hn : n.toNat = (c.toNat + 1) % 60) : AcceptCase c s (acceptHourParity n b s) := by
  obtain ⟨-, h⟩ | ⟨-, h⟩ := acceptHourParity_cases s n b
  · rw [h]; exact .advanced (by omega) (by omega) hn rfl (by simp [h36]) ⟨rfl, rfl, rfl, rfl, rfl⟩
  · exact .failed (by omega) _ h

/-- R131: every position rule answers a next state, in one of the three ways. -/
theorem acceptAt_cases (c : Code) (b : Bool) (s : State) :
    ∃ t, acceptAt c b s = .next t ∧ AcceptCase c s t := by
  revert c
  refine Code.of_numerals fun n hn => ?_
  interval_cases n <;>
    first
    | exact ⟨_, rfl, .ignored (by decide) rfl⟩
    | exact ⟨_, rfl, .ignorable _ b (by decide) (by decide) (by decide) (by decide)⟩
    | exact ⟨_, rfl, .weighted _ _ _ b (by decide) (by decide) (by decide) (by decide)⟩
    | exact ⟨_, rfl, .discarded _ b (by decide) (by decide) (by decide) (by decide)⟩
    | exact ⟨_, rfl, .fixed _ b (by decide) (by decide) (by decide) (by decide)⟩
    | exact ⟨_, rfl, .parity _ b (by decide) (by decide) (by decide) (by decide)⟩
    | exact ⟨_, rfl, .hourParity _ b (by decide) (by decide)⟩
    | exact ⟨_, rfl, .failed (by decide) .invalidState rfl⟩

/-- R131: the same of the position rule as an instruction. -/
theorem exec_position_cases (c : Code) (b : Bool) (s : State) :
    ∃ t, exec (decodePos c b) s = .next t ∧ AcceptCase c s t := by
  rw [← acceptAt_eq_exec]; exact acceptAt_cases c b s

/-- R30, R61: a position rule reads nothing of the boundary, so with other outputs, clock state, mailbox and agenda it does the
same and delivers the same. -/
theorem acceptAt_boundary (c : Code) {b : Bool} {s t : State} (h : acceptAt c b s = .next t) (o : List OutRec) (k : Clk)
    (sl : Slot) (a : List AgentAction) : ∃ l : List OutRec, t.out = s.out ++ l ∧
      acceptAt c b { s with out := o, clk := k, slot := sl, agenda := a } =
        .next { t with out := o ++ l, clk := k, slot := sl, agenda := a } := by
  revert c
  refine Code.of_numerals fun n hn => ?_
  intro h
  have par_cases (n : Code) : ∃ l : List OutRec, (acceptParity n b s).out = s.out ++ l ∧
      acceptParity n b { s with out := o, clk := k, slot := sl, agenda := a } =
        { acceptParity n b s with out := o ++ l, clk := k, slot := sl, agenda := a } := by
    obtain ⟨p, e⟩ | ⟨p, e⟩ := acceptParity_cases s n b
    · exact ⟨[], by simp [e], by rw [e]; simp [acceptParity, State.parityMatches, p, State.clearPar, State.setDs]⟩
    · exact ⟨_, by rw [e]; rfl, by rw [e]; simp [acceptParity, State.parityMatches, p]; rfl⟩
  have hour_cases (n : Code) : ∃ l : List OutRec, (acceptHourParity n b s).out = s.out ++ l ∧
      acceptHourParity n b { s with out := o, clk := k, slot := sl, agenda := a } =
        { acceptHourParity n b s with out := o ++ l, clk := k, slot := sl, agenda := a } := by
    obtain ⟨p, e⟩ | ⟨p, e⟩ := acceptHourParity_cases s n b
    · exact ⟨[], by simp [e], by
        rw [e]; simp [acceptHourParity, State.parityMatches, p, State.clearPar, State.setIntent, State.setDs]⟩
    · exact ⟨_, by rw [e]; rfl, by rw [e]; simp [acceptHourParity, State.parityMatches, p]; rfl⟩
  interval_cases n <;>
    first
    | (cases h; exact (par_cases _).imp fun _ q => ⟨q.1, congrArg _ q.2⟩)
    | (cases h; exact (hour_cases _).imp fun _ q => ⟨q.1, congrArg _ q.2⟩)
    | (cases b <;> cases h <;>
        first
        | exact ⟨[], (List.append_nil _).symm, by rw [List.append_nil]; rfl⟩
        | exact ⟨_, rfl, rfl⟩)

/-! ## The event-word operations -/

theorem exec_highZero (d : Dur) (s : State) :
    exec (.highZero d) s = exec (decodePos s.ds false) (s.emit .onZero d) :=
  acceptBit_eq_exec false (s.emit .onZero d)

theorem exec_highOne (d : Dur) (s : State) :
    exec (.highOne d) s = exec (decodePos s.ds true) (s.emit .onOne d) :=
  acceptBit_eq_exec true (s.emit .onOne d)

theorem exec_highInvalid (d : Dur) (s : State) :
    exec (.highInvalid d) s = .next (failRecovery .pulseTiming (s.emit .onInvalid d)) := rfl

theorem exec_lowStart (d : Dur) (s : State) :
    exec (.lowStart d) s = .next (commitCheck (acceptStartMarker (s.emit .onStart d))) := rfl

theorem exec_lowOrdinary (d : Dur) (s : State) : exec (.lowOrdinary d) s = .next (commitCheck s) := rfl

/-- No instruction stops the machine. -/
theorem exec_next (i : Instr) (s : State) : ∃ t, exec i s = .next t := by
  cases i.twoLevel with
  | highZero d => rw [exec_highZero]; exact (exec_position_cases _ _ _).imp fun _ h => h.1
  | highOne d => rw [exec_highOne]; exact (exec_position_cases _ _ _).imp fun _ h => h.1
  | highInvalid d => exact ⟨_, rfl⟩
  | lowStart d => exact ⟨_, rfl⟩
  | lowOrdinary d => exact ⟨_, rfl⟩
  | position c b => exact (exec_position_cases c b s).imp fun _ h => h.1

/-! ## The turn -/

/-- The operation of an event, and the state it is run in, as the machine's poll gives them. -/
theorem poll_full {s : State} (h : s.slot.full = true) :
    poll s = exec (decodeEvent s.slot.level s.slot.dur) s.takeSlot := by
  simp [poll, h]

theorem poll_empty {s : State} (h : s.slot.full = false) : poll s = .next s := by
  simp [poll, h]

/-- The turn of the block: nothing on the agenda, or a poll at its head. -/
theorem step_poll_nil {s : State} (h : s.agenda = []) : step s = poll s := by
  simp [step, nextTurn, h]

theorem step_cons {s : State} {a : AgentAction} {rest : List AgentAction} (h : s.agenda = a :: rest) :
    step s = agentStep a { s with agenda := rest } := by
  simp [step, nextTurn, h]

/-! ## What a turn can do -/

/-- What taking an event from `s` can do (R110, R111 to R115): a bit at the position in `ds`, an invalid pulse, a start marker,
or an ordinary low period. -/
inductive EventCase (s t : State) : Prop where
  | zero (hl : s.slot.level = .high) (hc : classifyHigh s.slot.dur = .zero)
      (h : AcceptCase s.ds (s.takeSlot.emit .onZero s.slot.dur) t)
      (run : acceptAt s.ds false (s.takeSlot.emit .onZero s.slot.dur) = .next t)
  | one (hl : s.slot.level = .high) (hc : classifyHigh s.slot.dur = .one)
      (h : AcceptCase s.ds (s.takeSlot.emit .onOne s.slot.dur) t)
      (run : acceptAt s.ds true (s.takeSlot.emit .onOne s.slot.dur) = .next t)
  | invalid (hl : s.slot.level = .high) (hc : classifyHigh s.slot.dur = .invalid)
      (h : t = failRecovery .pulseTiming (s.takeSlot.emit .onInvalid s.slot.dur))
  | start (hl : s.slot.level = .low) (hc : classifyLow s.slot.dur = .startMarker)
      (h : t = commitCheck (acceptStartMarker (s.takeSlot.emit .onStart s.slot.dur)))
  | ordinary (hl : s.slot.level = .low) (hc : classifyLow s.slot.dur = .ordinary) (h : t = commitCheck s.takeSlot)

/-- The inversion of `Poll`: the mailbox was empty and nothing changed, or an event was taken. -/
theorem poll_cases {s t : State} (h : poll s = .next t) :
    (s.slot.full = false ∧ t = s) ∨ (s.slot.full = true ∧ EventCase s t) := by
  cases hf : s.slot.full
  · rw [poll_empty hf] at h; cases h; exact .inl ⟨rfl, rfl⟩
  · refine .inr ⟨rfl, ?_⟩
    rw [poll_full hf] at h
    cases hl : s.slot.level <;> simp only [hl, decodeEvent] at h
    · split at h <;> rename_i hc
      · exact .start hl hc (Host.Outcome.next.inj h).symm
      · exact .ordinary hl hc (Host.Outcome.next.inj h).symm
    · split at h <;> rename_i hc
      · obtain ⟨u, hu, ha⟩ := acceptAt_cases s.ds false (s.takeSlot.emit .onZero s.slot.dur)
        cases hu.symm.trans h; exact .zero hl hc ha hu
      · obtain ⟨u, hu, ha⟩ := acceptAt_cases s.ds true (s.takeSlot.emit .onOne s.slot.dur)
        cases hu.symm.trans h; exact .one hl hc ha hu
      · exact .invalid hl hc (Host.Outcome.next.inj h).symm

/-- The inversion of a step: a poll, or one of the four other agents' actions, on the state without the action. -/
theorem step_cases {s t : State} (h : step s = .next t) : ∃ rest : List AgentAction,
    poll { s with agenda := rest } = .next t ∨
    (∃ l d, t = { s with agenda := rest }.captureWrite l d) ∨ (∃ c, t = { s with agenda := rest }.setClk c) ∨
    (∃ k, t = { s with agenda := rest }.setKDate k) ∨ t = { s with agenda := rest }.applyReset := by
  cases ha : s.agenda with
  | nil => exact ⟨[], .inl (by rw [step_poll_nil ha] at h; rw [← ha]; exact h)⟩
  | cons a rest =>
    rw [step_cons ha] at h
    refine ⟨rest, ?_⟩
    cases a with
    | poll => exact .inl h
    | capture l ms => exact .inr (.inl ⟨l, _, (Host.Outcome.next.inj h).symm⟩)
    | writeClk c => exact .inr (.inr (.inl ⟨c, (Host.Outcome.next.inj h).symm⟩))
    | supplyKDate k => exact .inr (.inr (.inr (.inl ⟨k, (Host.Outcome.next.inj h).symm⟩)))
    | reset => exact .inr (.inr (.inr (.inr (Host.Outcome.next.inj h).symm)))

/-- The induction over agents, packaged once: what a poll and the other agents' actions keep, a step keeps. -/
theorem step_keeps (P : State → Prop) (agenda : ∀ s a, P s → P { s with agenda := a })
    (poll_ : ∀ s t, P s → poll s = .next t → P t) (capture : ∀ s l d, P s → P (s.captureWrite l d))
    (clk : ∀ s c, P s → P (s.setClk c)) (kdate : ∀ s k, P s → P (s.setKDate k)) (reset : ∀ s, P s → P s.applyReset)
    {s t : State} (hs : P s) (h : step s = .next t) : P t := by
  obtain ⟨rest, h | ⟨l, d, rfl⟩ | ⟨c, rfl⟩ | ⟨k, rfl⟩ | rfl⟩ := step_cases h
  · exact poll_ _ _ (agenda s rest hs) h
  · exact capture _ _ _ (agenda s rest hs)
  · exact clk _ _ (agenda s rest hs)
  · exact kdate _ _ (agenda s rest hs)
  · exact reset _ (agenda s rest hs)

end Sys2Proof.Machine
end

