-- ==== Sys2Proof/Laws/Trace.lean ====
section
/-! SUPPORT. The trace functions over appended lists, and the packing of records. -/

namespace Sys2Proof.Machine

theorem acceptBits_append {a : List Bool} (b : List Bool) {s t : State} (h : acceptBits a s = .next t) :
    acceptBits (a ++ b) s = acceptBits b t := by
  induction a generalizing s with
  | nil => cases h; rfl
  | cons x xs ih =>
    simp only [List.cons_append, acceptBits] at h ⊢
    cases hx : acceptBit x s with
    | next u => simp only [hx] at h ⊢; exact ih h
    | fault r => simp only [hx] at h; cases h
    | refused r => simp only [hx] at h; cases h

theorem xorAll_append (a b : List Bool) : xorAll (a ++ b) = (xorAll a ^^ xorAll b) := by
  have start (l : List Bool) (x : Bool) : l.foldl (· ^^ ·) x = (x ^^ l.foldl (· ^^ ·) false) := by
    induction l generalizing x with
    | nil => simp
    | cons y l ih => rw [List.foldl_cons, List.foldl_cons, ih, ih (false ^^ y)]; simp
  simp only [xorAll, List.foldl_append]; exact start _ _

theorem rtcRecords_append (a b : List OutRec) : rtcRecords (a ++ b) = rtcRecords a ++ rtcRecords b :=
  List.filterMap_append ..

theorem clkRecords_append (a b : List OutRec) : clkRecords (a ++ b) = clkRecords a ++ clkRecords b :=
  List.filterMap_append ..

theorem diagRecords_append (a b : List OutRec) : diagRecords (a ++ b) = diagRecords a ++ diagRecords b :=
  List.filterMap_append ..

/-- The duration of one event shows in no RTC record, no clock record and no event code. -/
theorem records_of_event_dur (o l : List OutRec) (c : DiagCode) (d d' : Dur) :
    rtcRecords (o ++ .diag ⟨c, d'⟩ :: l) = rtcRecords (o ++ .diag ⟨c, d⟩ :: l) ∧
    clkRecords (o ++ .diag ⟨c, d'⟩ :: l) = clkRecords (o ++ .diag ⟨c, d⟩ :: l) ∧
    (diagRecords (o ++ .diag ⟨c, d'⟩ :: l)).map (·.code) = (diagRecords (o ++ .diag ⟨c, d⟩ :: l)).map (·.code) := by
  simp [rtcRecords, clkRecords, diagRecords]

/-- The records of one commit, in each sink. -/
theorem commit_records (s : State) :
    rtcRecords (commit s).out = rtcRecords s.out ++ [commitRecord s] ∧
    clkRecords (commit s).out = clkRecords s.out ++ [mirrorRecord (dateCommit s) (commitRecord s)] ∧
    diagRecords (commit s).out = diagRecords s.out ++ [{ code := .onSignalCommitted, dur := 0 }] := by
  rw [commit_eq]
  simp [rtcRecords, clkRecords, diagRecords, commitOutputs]

/-- Well-formed traces, one after the other. -/
theorem commitsWellFormed_append {a b : List OutRec} (ha : commitsWellFormed a = true)
    (hb : commitsWellFormed b = true) : commitsWellFormed (a ++ b) = true := by
  fun_induction commitsWellFormed a with
  | case1 => exact hb
  | case2 r c e rest ih =>
    rw [Bool.and_eq_true] at ha
    simp only [List.cons_append, commitsWellFormed, Bool.and_eq_true]; exact ⟨ha.1, ih ha.2⟩
  | case3 e rest ih =>
    rw [Bool.and_eq_true] at ha
    simp only [List.cons_append, commitsWellFormed, Bool.and_eq_true]; exact ⟨ha.1, ih ha.2⟩
  | case4 => cases ha
  | case5 => cases ha

end Sys2Proof.Machine
end

