-- ==== Sys2Proof/Tests/Slice0.lean ====
section
/-! SUPPORT. The model's own tests. Expected values come from the spec: 30_encoding.md for words, 95_test_vectors.md for states
and records. The theorems named test_witness_<Name> show that the hypotheses of Obligations.<Name> can be met together. -/

namespace Sys2Proof.Tests

open Sys2Proof.Machine
open Sys2Proof.Statements

/-! ## Helpers -/

/-- 95_test_vectors.md section 1: a state `(ds, MIN, HOUR, DAY, MONTH, YEAR, par, ci)` with the known date of that section. -/
def st (ds : Code) (mi h d mo y : Val) (par ci : Bool) : State :=
  { State.reset with
    ds := ds, xMin := mi, xHour := h, xDay := d, xMonth := mo, xYear := y, par := par, ci := ci
    kdate := { weekday := 2, day := 9, month := 11, year := 26 } }

/-- An event in the mailbox of a state. -/
def withEvent (l : Level) (ms : Nat) (s : State) : State := s.captureWrite l (BitVec.ofNat 15 ms)

/-- The eight fields of section 1. -/
def eight (s : State) : Code × List Val × Bool × Bool :=
  (s.ds, [s.xMin, s.xHour, s.xDay, s.xMonth, s.xYear], s.par, s.ci)

/-- A field of the next state. -/
def after {α : Type} (f : State → α) : Result → Option α
  | .next t => some (f t)
  | .fault _ => none
  | .refused _ => none

/-- What the decoder reads, none where it refuses. -/
def read (l : List Byte) : Option Instr :=
  match decode l with
  | .ok i => some i
  | .error _ => none

/-! ## WellFormed: an ill-formed term for each check -/

/-- R83: outside 41..129. -/
theorem test_wf_highZero : [40, 130].all (fun d => (Instr.highZero d).wf == false) ∧
    [41, 129].all (fun d => (Instr.highZero d).wf) := by decide

/-- R83: outside 141..229. -/
theorem test_wf_highOne : [140, 230].all (fun d => (Instr.highOne d).wf == false) ∧
    [141, 229].all (fun d => (Instr.highOne d).wf) := by decide

/-- R83: outside 0..40, 130..140, 230..32767. -/
theorem test_wf_highInvalid : [41, 129, 141, 229].all (fun d => (Instr.highInvalid d).wf == false) ∧
    [0, 40, 130, 140, 230, 32767].all (fun d => (Instr.highInvalid d).wf) := by decide

/-- R83: outside 1601..1999. -/
theorem test_wf_lowStart : [1600, 2000].all (fun d => (Instr.lowStart d).wf == false) ∧
    [1601, 1999].all (fun d => (Instr.lowStart d).wf) := by decide

/-- R83: outside 0..1600, 2000..32767. -/
theorem test_wf_lowOrdinary : [1601, 1999].all (fun d => (Instr.lowOrdinary d).wf == false) ∧
    [0, 1600, 2000, 32767].all (fun d => (Instr.lowOrdinary d).wf) := by decide

/-! ## Decoding: words written out from the spec's encodings -/

/-- R81, 3.1: bit 15 is 1; 0x8029, 0x8081, 0x808D, 0x80E5, bits 7:0 first. -/
theorem test_decode_high_bits :
    read [0b00101001, 0b10000000] = some (.highZero 41) ∧ read [0b10000001, 0b10000000] = some (.highZero 129) ∧
    read [0b10001101, 0b10000000] = some (.highOne 141) ∧ read [0b11100101, 0b10000000] = some (.highOne 229) := by decide

/-- R81, 3.1: 0x8028, 0x8082, 0x808C, 0x80E6, 0x83E8, 0xFFFF. -/
theorem test_decode_high_invalid :
    read [0b00101000, 0b10000000] = some (.highInvalid 40) ∧ read [0b10000010, 0b10000000] = some (.highInvalid 130) ∧
    read [0b10001100, 0b10000000] = some (.highInvalid 140) ∧ read [0b11100110, 0b10000000] = some (.highInvalid 230) ∧
    read [0b11101000, 0b10000011] = some (.highInvalid 1000) ∧
    read [0b11111111, 0b11111111] = some (.highInvalid 32767) := by decide

/-- R81, 3.2: bit 15 is 0; 0x0641, 0x07CF, 0x0640, 0x07D0, 0x7FFF, 0x0000. -/
theorem test_decode_low :
    read [0b01000001, 0b00000110] = some (.lowStart 1601) ∧ read [0b11001111, 0b00000111] = some (.lowStart 1999) ∧
    read [0b01000000, 0b00000110] = some (.lowOrdinary 1600) ∧ read [0b11010000, 0b00000111] = some (.lowOrdinary 2000) ∧
    read [0b11111111, 0b01111111] = some (.lowOrdinary 32767) ∧ read [0, 0] = some (.lowOrdinary 0) := by decide

/-- R85, R86: codes 0 to 15 in bits 5:0, the bit 0 in bit 6 (log 2). -/
theorem test_decode_codes_0_15_bit0 :
    [0b00000000, 0b00000001, 0b00000010, 0b00000011, 0b00000100, 0b00000101, 0b00000110, 0b00000111, 0b00001000,
     0b00001001, 0b00001010, 0b00001011, 0b00001100, 0b00001101, 0b00001110, 0b00001111].map (fun p => read [p]) =
    [some (.posWait false), some (.posB0 false), some (.posB1 false), some (.posB2 false), some (.posB3 false), some
     (.posB4 false), some (.posB5 false), some (.posB6 false), some (.posB7 false), some (.posB8 false), some (.posB9
     false), some (.posB10 false), some (.posB11 false), some (.posB12 false), some (.posB13 false), some (.posB14
     false)] := by decide

/-- R85, R86: codes 16 to 31 in bits 5:0, the bit 0 in bit 6 (log 2). -/
theorem test_decode_codes_16_31_bit0 :
    [0b00010000, 0b00010001, 0b00010010, 0b00010011, 0b00010100, 0b00010101, 0b00010110, 0b00010111, 0b00011000,
     0b00011001, 0b00011010, 0b00011011, 0b00011100, 0b00011101, 0b00011110, 0b00011111].map (fun p => read [p]) =
    [some (.posB15 false), some (.posB16 false), some (.posB17 false), some (.posB18 false), some (.posB19 false),
     some (.posB20 false), some (.posB21 false), some (.posB22 false), some (.posB23 false), some (.posB24 false),
     some (.posB25 false), some (.posB26 false), some (.posB27 false), some (.posB28 false), some (.posB29 false),
     some (.posB30 false)] := by decide

/-- R85, R86: codes 16 to 31 in bits 5:0, the bit 1 in bit 6 (log 2). -/
theorem test_decode_codes_16_31_bit1 :
    [0b01010000, 0b01010001, 0b01010010, 0b01010011, 0b01010100, 0b01010101, 0b01010110, 0b01010111, 0b01011000,
     0b01011001, 0b01011010, 0b01011011, 0b01011100, 0b01011101, 0b01011110, 0b01011111].map (fun p => read [p]) =
    [some (.posB15 true), some (.posB16 true), some (.posB17 true), some (.posB18 true), some (.posB19 true), some
     (.posB20 true), some (.posB21 true), some (.posB22 true), some (.posB23 true), some (.posB24 true), some (.posB25
     true), some (.posB26 true), some (.posB27 true), some (.posB28 true), some (.posB29 true), some (.posB30 true)] := by decide

/-- R85, R86: codes 32 to 47 in bits 5:0, the bit 0 in bit 6 (log 2). -/
theorem test_decode_codes_32_47_bit0 :
    [0b00100000, 0b00100001, 0b00100010, 0b00100011, 0b00100100, 0b00100101, 0b00100110, 0b00100111, 0b00101000,
     0b00101001, 0b00101010, 0b00101011, 0b00101100, 0b00101101, 0b00101110, 0b00101111].map (fun p => read [p]) =
    [some (.posB31 false), some (.posB32 false), some (.posB33 false), some (.posB34 false), some (.posB35 false),
     some (.posB36 false), some (.posB37 false), some (.posB38 false), some (.posB39 false), some (.posB40 false),
     some (.posB41 false), some (.posB42 false), some (.posB43 false), some (.posB44 false), some (.posB45 false),
     some (.posB46 false)] := by decide

/-- R85, R86: codes 48 to 63 in bits 5:0, the bit 0 in bit 6 (log 2). -/
theorem test_decode_codes_48_63_bit0 :
    [0b00110000, 0b00110001, 0b00110010, 0b00110011, 0b00110100, 0b00110101, 0b00110110, 0b00110111, 0b00111000,
     0b00111001, 0b00111010, 0b00111011, 0b00111100, 0b00111101, 0b00111110, 0b00111111].map (fun p => read [p]) =
    [some (.posB47 false), some (.posB48 false), some (.posB49 false), some (.posB50 false), some (.posB51 false),
     some (.posB52 false), some (.posB53 false), some (.posB54 false), some (.posB55 false), some (.posB56 false),
     some (.posB57 false), some (.posB58 false), some (.posSpare false), some (.posUndef61 false), some (.posUndef62
     false), some (.posUndef63 false)] := by decide

/-- R85, R86: codes 48 to 63 in bits 5:0, the bit 1 in bit 6 (log 2). -/
theorem test_decode_codes_48_63_bit1 :
    [0b01110000, 0b01110001, 0b01110010, 0b01110011, 0b01110100, 0b01110101, 0b01110110, 0b01110111, 0b01111000,
     0b01111001, 0b01111010, 0b01111011, 0b01111100, 0b01111101, 0b01111110, 0b01111111].map (fun p => read [p]) =
    [some (.posB47 true), some (.posB48 true), some (.posB49 true), some (.posB50 true), some (.posB51 true), some
     (.posB52 true), some (.posB53 true), some (.posB54 true), some (.posB55 true), some (.posB56 true), some (.posB57
     true), some (.posB58 true), some (.posSpare true), some (.posUndef61 true), some (.posUndef62 true), some
     (.posUndef63 true)] := by decide

/-- Log 2: no position has bit 7, and no instruction has no byte or three. -/
theorem test_decode_refuses :
    decode [0b10000000] = .error .positionByteTooLarge ∧ decode [0b11111111] = .error .positionByteTooLarge ∧
    decode [] = .error .wrongLength ∧ decode [0x16, 0, 0] = .error .wrongLength := ⟨rfl, rfl, rfl, rfl⟩

/-- Log 3: the table's fixed bits of HIGH.INVALID, LOW.ORDINARY, POS.WAIT, POS.B7, POS.UNDEF63. -/
theorem test_table_words :
    decodeTableWord 16 0x8000 = some (.highInvalid 0) ∧ decodeTableWord 16 0 = some (.lowOrdinary 0) ∧
    decodeTableWord 8 0 = some (.posWait false) ∧ decodeTableWord 8 8 = some (.posB7 false) ∧
    decodeTableWord 8 63 = some (.posUndef63 false) := by decide

/-- R84 to R86: the table has 61 rows; the last are B58 and SPARE. -/
theorem test_position_table :
    positionTable.length = 61 ∧ (descriptor 59).map (·.nxt) = some (some 0) ∧
    (descriptor 60).map (·.cls) = some .spare := by decide

/-- R90 to R92, R95: records packed by hand. -/
theorem test_record_layouts :
    RtcRec.pack ⟨36, 33, 12, 2, 10, 11, 26⟩ = 0x24210C020A0B1A ∧ ClkRec.pack ⟨true, 36, 33, 12, 10, 11, 26⟩ = 0x124210C0A0B1A ∧
    KDate.pack ⟨2, 9, 11, 26⟩ = 0x02090B1A ∧ DiagRec.pack ⟨.onStart, 1800⟩ = 0x10708 := by decide

/-! ## One event -/

/-- 3.1, start `(B3, …)`. -/
theorem test_highZero_B3 :
    after eight (step (withEvent .high 129 (st 4 0 0 0 0 0 false false))) = some (5, [0, 0, 0, 0, 0], false, false) ∧
    after (·.out) (step (withEvent .high 129 (st 4 0 0 0 0 0 false false))) = some [ev .onZero 129] := by decide

/-- 3.3 M4 and 3.1. -/
theorem test_highOne_B22 :
    after eight (step (withEvent .high 200 (st 23 0 0 0 0 0 false false))) = some (24, [2, 0, 0, 0, 0], true, false) ∧
    after (·.out) (step (withEvent .high 200 (st 23 0 0 0 0 0 false false))) = some [ev .onOne 200] := by decide

/-- 3.6 F1. -/
theorem test_highInvalid_F1 :
    after eight (step (withEvent .high 135 (st 41 0 0 9 0 0 true false))) = some (0, [0, 0, 0, 0, 0], false, false) ∧
    after (·.out) (step (withEvent .high 135 (st 41 0 0 9 0 0 true false))) =
      some [ev .onInvalid 135, ev .onReadFailed 0] := by decide

/-- 3.5 A3: a restart clears nothing. -/
theorem test_lowStart_A3 :
    after eight (step (withEvent .low 1900 (st 25 4 0 0 0 0 true false))) = some (1, [4, 0, 0, 0, 0], true, false) := by decide

/-- 3.5 A4: the commit follows the start marker. -/
theorem test_lowStart_A4 :
    after eight (step (withEvent .low 1700 (st 37 34 12 0 0 0 false true))) = some (1, [0, 0, 0, 0, 0], false, false) ∧
    after (·.out) (step (withEvent .low 1700 (st 37 34 12 0 0 0 false true))) =
      some [ev .onStart 1700, ev .onReadStarted 0, .rtc ⟨36, 33, 12, 2, 9, 11, 26⟩, .clk ⟨false, 36, 33, 12, 9, 11, 26⟩,
        ev .onSignalCommitted 0] := by decide

/-- 3.7 K4 and K5: decoded (0, 0) under the two rules. -/
theorem test_lowOrdinary_K4_K5 :
    after (·.out) (exec (.lowOrdinary 900) (st 37 0 0 10 11 26 false true)) =
      some [.rtc ⟨36, 59, 23, 2, 10, 11, 26⟩, .clk ⟨true, 36, 59, 23, 10, 11, 26⟩, ev .onSignalCommitted 0] ∧
    after (·.out) (exec (.lowOrdinary 900) { st 37 0 0 10 11 26 false true with midnightRule := .decoded }) =
      some [.rtc ⟨36, 59, 23, 2, 9, 11, 26⟩, .clk ⟨false, 36, 59, 23, 9, 11, 26⟩, ev .onSignalCommitted 0] := by decide

/-- 3.7 K6 and K7: decoded (1, 0) under the two rules. -/
theorem test_lowOrdinary_K6_K7 :
    after (·.clk) (exec (.lowOrdinary 900) (st 37 1 0 10 11 26 false true)) = some ⟨36, 0, 0, 0, 0, 0⟩ ∧
    after (·.clk) (exec (.lowOrdinary 900) { st 37 1 0 10 11 26 false true with midnightRule := .decoded }) =
      some ⟨36, 0, 0, 10, 11, 26⟩ := by decide

/-! ## Positions: section 3.4, and 3.6 for the failures -/

/-- Codes 22 and 28 with par = 1. -/
theorem test_minute_positions :
    after eight (exec (.posB21 true) (st 22 0 0 0 0 0 true false)) = some (23, [1, 0, 0, 0, 0], false, false) ∧
    after eight (exec (.posB27 false) (st 28 0 0 0 0 0 true false)) = some (29, [0, 0, 0, 0, 0], true, false) := by decide

/-- Codes 35 and 36: HOUR = 20, and the intent. -/
theorem test_hour_positions :
    after eight (exec (.posB34 true) (st 35 0 0 0 0 0 false false)) = some (36, [0, 20, 0, 0, 0], true, false) ∧
    after eight (exec (.posB35 true) (st 36 0 0 0 0 0 true false)) = some (37, [0, 0, 0, 0, 0], false, true) := by decide

/-- Codes 42, 43, 50, 58. -/
theorem test_date_positions :
    after eight (exec (.posB41 true) (st 42 0 0 0 0 0 false false)) = some (43, [0, 0, 20, 0, 0], true, false) ∧
    after eight (exec (.posB42 true) (st 43 0 0 0 0 0 true false)) = some (44, [0, 0, 0, 0, 0], false, false) ∧
    after eight (exec (.posB49 true) (st 50 0 0 0 0 0 false false)) = some (51, [0, 0, 0, 10, 0], true, false) ∧
    after eight (exec (.posB57 true) (st 58 0 0 0 0 0 false false)) = some (59, [0, 0, 0, 0, 80], true, false) :=
  ⟨by decide, by decide, by decide, by decide⟩

/-- F3, F4, F6, F8. -/
theorem test_failing_positions :
    after eight (exec (.posB20 false) (st 21 0 0 0 0 0 false false)) = some (0, [0, 0, 0, 0, 0], false, false) ∧
    after eight (exec (.posB28 false) (st 29 34 0 0 0 0 true false)) = some (0, [0, 0, 0, 0, 0], false, false) ∧
    after eight (exec (.posB58 true) (st 59 0 0 10 11 26 false false)) = some (0, [0, 0, 0, 0, 0], false, false) ∧
    after eight (exec (.posUndef63 true) (st 63 7 0 0 0 0 false false)) = some (0, [0, 0, 0, 0, 0], false, false) :=
  ⟨by decide, by decide, by decide, by decide⟩

/-- R9: 250 + 10 wraps to 4. -/
theorem test_accumulator_wraps :
    after eight (exec (.posB25 true) (st 26 250 0 0 0 0 false false)) = some (27, [4, 0, 0, 0, 0], true, false) := by decide

/-! ## The agents -/

/-- R56. -/
theorem test_capture_saturates :
    after (·.slot) (step { State.reset with agenda := [.capture .high 40000] }) = some ⟨true, .high, 32767⟩ := by decide

/-- 3.8 Z1. -/
theorem test_reset_Z1 :
    after eight (step { withEvent .low 900 (st 37 34 12 10 11 26 false true) with agenda := [.reset] }) =
      some (0, [0, 0, 0, 0, 0], false, false) ∧
    after (·.slot.full) (step { withEvent .low 900 (st 37 34 12 10 11 26 false true) with agenda := [.reset] }) =
      some false := by decide

/-- 3.8 Z3, Z4: from the reset state, `L 900` and `H 100`. -/
theorem test_from_reset :
    after (·.out) (step (State.reset.withFetchWord 16 0x0384)) = some [] ∧
    after (·.out) (step (State.reset.withFetchWord 16 0x8064)) = some [ev .onZero 100] := by decide

/-- Log 4: a position as the first instruction after reset. -/
theorem test_position_from_reset :
    after eight (step (State.reset.withFetchWord 8 0x5C)) = some (29, [40, 0, 0, 0, 0], true, false) := by decide

/-- R102: the frame of 12:34 on 10.11.26 has 59 bits and 118 words; the first word of it is `H 100`. -/
theorem test_frame_shape :
    (frameBits 34 12 10 2 11 26).length = 59 ∧ (frameWords 34 12 10 2 11 26).length = 118 ∧
    (frameWords 34 12 10 2 11 26).head? = some 0x8064 := ⟨rfl, rfl, rfl⟩

/-! ## Witnesses -/

theorem test_witness_DecodeOfEncodeIsTheInstruction :
    (Instr.highZero 41).wf = true ∧ (Instr.highOne 229).wf = true ∧ (Instr.highInvalid 32767).wf = true ∧
    (Instr.lowStart 1999).wf = true ∧ (Instr.lowOrdinary 1600).wf = true ∧ (Instr.posB58 true).wf = true := by decide

/-- Every boundary of the ranges, on each side. -/
theorem test_witness_EventWordRangesSelectOperations :
    (∀ d ∈ [0, 40, 41, 129, 130, 140, 141, 229, 230, 32767], ∃ w : EvWord, 32768 ≤ w.toNat ∧ d = w.toNat % 32768) ∧
    (∀ d ∈ [0, 1600, 1601, 1999, 2000, 32767], ∃ w : EvWord, w.toNat < 32768 ∧ d = w.toNat % 32768) := by
  constructor <;> intro d hd <;> simp only [List.mem_cons, List.not_mem_nil, or_false] at hd
  · exact ⟨BitVec.ofNat 16 (32768 + d), by rcases hd with h | h | h | h | h | h | h | h | h | h <;> subst h <;> decide⟩
  · exact ⟨BitVec.ofNat 16 d, by rcases hd with h | h | h | h | h | h <;> subst h <;> decide⟩

theorem test_witness_PositionBytesRoundTrip :
    (0x00 : Byte).getLsbD 7 = false ∧ (0x7F : Byte).getLsbD 7 = false ∧ (0x80 : Byte).getLsbD 7 = true ∧
    (0xFF : Byte).getLsbD 7 = true ∧ ([] : List Byte).length ≠ 1 ∧ ([] : List Byte).length ≠ 2 ∧
    [(0 : Byte), 0, 0].length ≠ 1 ∧ [(0 : Byte), 0, 0].length ≠ 2 := by decide

theorem test_witness_RecordFieldsStandAtTheirBits :
    (0x38000 : BitVec 18).toNat / 32768 = 7 ∧ (0x3FFFF : BitVec 18).toNat / 32768 = 7 := by decide

theorem test_witness_PollTakesOneEvent :
    (st 4 0 0 0 0 0 false false).slot.full = false ∧ (withEvent .low 1601 (st 4 0 0 0 0 0 false false)).slot.full = true ∧
    decode (evBytes (evWord .low 1601)) = .ok (.lowStart 1601) := ⟨rfl, rfl, rfl⟩

theorem test_witness_StepRunsTheDecodedInstruction :
    State.reset.agenda = [] ∧ State.reset.slot.full = false ∧
    { withEvent .high 41 State.reset with agenda := [.poll, .reset] }.agenda = .poll :: [.reset] ∧
    { withEvent .high 41 State.reset with agenda := [.poll, .reset] }.slot = ⟨true, .high, 41⟩ ∧
    decode (evBytes (evWord .high 41)) = .ok (.highZero 41) := ⟨rfl, rfl, rfl, rfl, rfl⟩

theorem test_witness_HighEventRunsItsPositionRule :
    classifyHigh 41 = .zero ∧ classifyHigh 129 = .zero ∧ classifyHigh 141 = .one ∧ classifyHigh 229 = .one ∧
    classifyHigh 40 = .invalid ∧ classifyHigh 130 = .invalid ∧ classifyHigh 140 = .invalid ∧
    classifyHigh 230 = .invalid := by decide

/-- The start marker and the ordinary period, with and without intent. -/
theorem test_witness_LowEventMarksThenChecksCommit : ∀ ci : Bool,
    (∃ s1, (classifyLow 1601 = .startMarker →
        s1 = { st 37 34 12 0 0 0 false ci with ds := 1, out := [] ++ [ev .onStart 1601, ev .onReadStarted 0] }) ∧
      (classifyLow 1601 = .ordinary → s1 = st 37 34 12 0 0 0 false ci) ∧ (st 37 34 12 0 0 0 false ci).ci = ci) ∧
    (∃ s1, (classifyLow 2000 = .startMarker →
        s1 = { st 37 34 12 0 0 0 false ci with ds := 1, out := [] ++ [ev .onStart 2000, ev .onReadStarted 0] }) ∧
      (classifyLow 2000 = .ordinary → s1 = st 37 34 12 0 0 0 false ci)) :=
  fun _ => ⟨⟨_, fun _ => rfl, (fun h => nomatch h), rfl⟩, ⟨_, (fun h => nomatch h), fun _ => rfl⟩⟩

theorem test_witness_FetchWordIsRunByTheNextStep :
    decodeTableWord 16 0x0641 = some (.lowStart 1601) ∧ decodeTableWord 8 0x7F = some (.posUndef63 true) ∧
    decodeTableWord 8 0 = some (.posWait false) := by decide

theorem test_witness_AnEventIsConsumedAtMostOnce :
    (∃ t, poll State.reset = .next t) ∧ ∃ t, poll (withEvent .high 100 State.reset) = .next t := ⟨⟨_, rfl⟩, _, rfl⟩

/-- The first and the last row. -/
theorem test_witness_IgnorablePositionsAdvance :
    (∃ p ∈ ignorableRows, p.1 true = .posB0 true ∧ p.2 = 2) ∧ ∃ p ∈ ignorableRows, p.1 true = .posB19 true ∧ p.2 = 21 :=
  ⟨⟨(.posB0, 2), by simp [ignorableRows], rfl, rfl⟩, (.posB19, 21), by simp [ignorableRows], rfl, rfl⟩

/-- The first and the last row. -/
theorem test_witness_WeightedPositionsAccumulate :
    (∃ p ∈ weightedRows, p.1 true = .posB21 true ∧ p.2 = (.min, 1, 23)) ∧
    ∃ p ∈ weightedRows, p.1 true = .posB57 true ∧ p.2 = (.year, 80, 59) :=
  ⟨⟨(.posB21, .min, 1, 23), by simp [weightedRows, minuteRows], rfl, rfl⟩,
    (.posB57, .year, 80, 59), by simp [weightedRows, yearRows], rfl, rfl⟩

/-- The last row. -/
theorem test_witness_DayOfWeekEntersParityOnly :
    ∃ p ∈ dayOfWeekRows, p.1 true = .posB44 true ∧ p.2 = 46 := ⟨(.posB44, 46), by simp [dayOfWeekRows], rfl, rfl⟩

theorem test_witness_ParityChecksPassOrFail :
    (st 29 34 0 0 0 0 true false).par = true ∧ (st 29 34 0 0 0 0 false false).par ≠ true := by decide

theorem test_witness_WaitIgnoresBitsButNotInvalidPulses : (st 0 0 0 10 11 26 true false).ds = 0 := by decide

theorem test_witness_PositionTableAgreesWithMeanings :
    (0 : Code).toNat ≤ 60 ∧ (60 : Code).toNat ≤ 60 ∧ 61 ≤ (61 : Code).toNat ∧ 61 ≤ (63 : Code).toNat := by decide

/-- At `B35` with `par` = 0, at `B20`'s neighbours, and at `B58`. -/
theorem test_witness_HighZeroEffect : ∀ c ∈ [(0 : Code), 20, 22, 29, 36, 59],
    (st c 0 0 0 0 0 false false).ds.toNat ≤ 59 ∧ (st c 0 0 0 0 0 false false).ds ≠ 21 ∧
    (AtParity (st c 0 0 0 0 0 false false).ds → (st c 0 0 0 0 0 false false).par = false) := by decide

theorem test_witness_HighOneEffect : ∀ c ∈ [(0 : Code), 21, 28, 29, 36, 58, 59],
    (st c 0 0 0 0 0 true false).ds.toNat ≤ 59 ∧
    (AtParity (st c 0 0 0 0 0 true false).ds → (st c 0 0 0 0 0 true false).par = true) := by decide

/-- Each reason for a failing bit, and a state with none. -/
theorem test_witness_HighBitsFailExactlyWhere :
    (st 21 0 0 0 0 0 false false).ds = 21 ∧ AtParity (st 36 0 0 0 0 0 true false).ds ∧ (st 36 0 0 0 0 0 true false).par = true ∧
    AtParity (st 59 0 0 0 0 0 false false).ds ∧ (st 59 0 0 0 0 0 false false).par = false ∧
    60 ≤ (st 60 0 0 0 0 0 false false).ds.toNat ∧ ¬ AtParity (st 22 0 0 0 0 0 false false).ds := by decide

/-- With intent and without. -/
theorem test_witness_LowStartRestartsAndCommits :
    (st 37 34 12 0 0 0 false true).ci = true ∧ (st 41 0 0 9 0 0 true false).ci = false := by decide

/-- A suppressed date, a written date and no date at all, under the rule of `LowOrdinaryCommitsOrDoesNothing`. -/
theorem test_witness_LowOrdinaryCommitsOrDoesNothing :
    DateDecoded (st 37 1 0 10 11 26 false true) ∧ ¬ DateDecoded (st 37 1 0 0 0 0 false true) ∧
    Suppressed (st 37 1 0 10 11 26 false true) ∧ ¬ Suppressed (st 37 0 0 10 11 26 false true) := by
  refine ⟨by decide, by decide, ?_, ?_⟩
  · exact ⟨rfl, rfl⟩
  · exact fun h => nomatch h.1

theorem test_witness_MidnightRuleFiresExactlyAt :
    (st 37 1 0 10 11 26 false true).ci = true ∧ (st 37 1 0 10 11 26 false true).midnightRule = .corrected ∧
    (∃ t, exec (.lowOrdinary 900) (st 37 1 0 10 11 26 false true) = .next t) ∧
    { st 37 0 0 10 11 26 false true with midnightRule := .decoded }.midnightRule = .decoded ∧
    ∃ t, exec (.lowOrdinary 900) { st 37 0 0 10 11 26 false true with midnightRule := .decoded } = .next t :=
  ⟨rfl, rfl, ⟨_, rfl⟩, rfl, _, rfl⟩

theorem test_witness_CorrectionIsOneMinuteEarlier :
    (0 : Val).toNat ≤ 59 ∧ (0 : Val).toNat ≤ 23 ∧ (59 : Val).toNat ≤ 59 ∧ (23 : Val).toNat ≤ 23 := by decide

/-- A low event with intent, one without, and a high event with intent. -/
theorem test_witness_RtcIsWrittenExactlyByLowEventsWithIntent :
    (∃ t, poll (withEvent .low 900 (st 37 34 12 0 0 0 false true)) = .next t) ∧
    (withEvent .low 900 (st 37 34 12 0 0 0 false true)).slot = ⟨true, .low, 900⟩ ∧
    (withEvent .low 900 (st 37 34 12 0 0 0 false true)).ci = true ∧
    (∃ t, poll (withEvent .high 200 (st 37 34 12 0 0 0 false true)) = .next t) ∧
    (withEvent .high 200 (st 37 34 12 0 0 0 false true)).slot.level ≠ .low :=
  ⟨⟨_, rfl⟩, rfl, rfl, ⟨_, rfl⟩, by decide⟩

theorem test_witness_FailureIsIdempotent :
    State.reset.ds = 0 ∧ (∀ f, State.reset.getX f = 0) ∧ State.reset.par = false ∧ State.reset.ci = false :=
  ⟨rfl, fun f => by cases f <;> rfl, rfl, rfl⟩

theorem test_witness_AtMostOneFailurePerPoll :
    (∃ t, poll (withEvent .high 135 (st 41 0 0 9 0 0 true false)) = .next t) ∧
    (∃ t, poll (withEvent .low 900 (st 41 0 0 9 0 0 true false)) = .next t) ∧
    (withEvent .low 900 (st 41 0 0 9 0 0 true false)).slot.level = .low ∧ State.reset.slot.full = false :=
  ⟨⟨_, rfl⟩, ⟨_, rfl⟩, rfl, rfl⟩

theorem test_witness_ApplyingResetClearsTheBlock :
    State.reset.ds = codeWait ∧ (∀ f, State.reset.getX f = 0) ∧ State.reset.par = false ∧ State.reset.ci = false ∧
    State.reset.slot.full = false := ⟨rfl, fun f => by cases f <;> rfl, rfl, rfl, rfl⟩

/-- One agenda for each clause. -/
theorem test_witness_OtherAgentsTouchOnlyTheirState : ∀ a ∈ [AgentAction.capture .high 0, .capture .low 32767,
    .capture .low 32768, .writeClk ⟨1, 2, 3, 4, 5, 6⟩, .supplyKDate ⟨2, 9, 11, 26⟩, .reset],
    { State.reset with agenda := [a, .poll] }.agenda = a :: [.poll] := fun _ _ => rfl

/-- The edges of the reachable codes, with a step from each. -/
theorem test_witness_EveryStepKeepsDsReachable :
    (st 0 0 0 0 0 0 false false).dsReachable ∧ (st 59 0 0 0 0 0 true false).dsReachable ∧
    (∃ t, step (withEvent .high 200 (st 59 0 0 0 0 0 true false)) = .next t) ∧
    ∃ t, step (st 0 0 0 0 0 0 false false) = .next t := ⟨by decide, by decide, ⟨_, rfl⟩, _, rfl⟩

/-- A trace that holds a commit and a failure, with a step that commits again. -/
theorem test_witness_EveryStepKeepsCommitsWellFormed :
    commitsWellFormed [.rtc ⟨36, 33, 12, 2, 9, 11, 26⟩, .clk ⟨false, 36, 33, 12, 9, 11, 26⟩, ev .onSignalCommitted 0,
      ev .onInvalid 135, ev .onReadFailed 0] = true ∧
    (∃ t, step { withEvent .low 900 (st 37 34 12 0 0 0 false true) with
      out := [ev .onInvalid 135, ev .onReadFailed 0] } = .next t) ∧
    commitsWellFormed [.rtc ⟨36, 33, 12, 2, 9, 11, 26⟩, ev .onSignalCommitted 0] = false := ⟨rfl, ⟨_, rfl⟩, rfl⟩

theorem test_witness_EveryRunStaysSafe :
    (withEvent .low 1800 (st 59 34 12 0 0 0 false true)).dsReachable ∧
    commitsWellFormed (withEvent .low 1800 (st 59 34 12 0 0 0 false true)).out = true := ⟨by decide, rfl⟩

theorem test_witness_EveryStepKeepsEventDurationsInTheirRanges :
    [ev .onZero 41, ev .onOne 229, ev .onStart 1999, ev .onInvalid 40, ev .onReadFailed 0].all OutRec.durationAllowed = true ∧
    (∃ t, step { withEvent .high 230 State.reset with out := [ev .onZero 129] } = .next t) ∧
    [ev .onZero 130].all OutRec.durationAllowed = false := ⟨by decide, ⟨_, rfl⟩, by decide⟩

theorem test_witness_DsMovesOnlyAsListed :
    (∃ t, poll State.reset = .next t) ∧ (∃ t, poll (withEvent .low 1999 (st 59 0 0 0 0 0 false false)) = .next t) ∧
    (∃ t, poll (withEvent .low 2000 (st 59 0 0 0 0 0 false false)) = .next t) ∧
    ∃ t, poll (withEvent .high 100 (st 58 0 0 0 0 0 false false)) = .next t := ⟨⟨_, rfl⟩, ⟨_, rfl⟩, ⟨_, rfl⟩, _, rfl⟩

/-- The intent set at `B35`, taken back by a low event, and taken back by a failure. -/
theorem test_witness_IntentIsSetOnlyByHourParity :
    (∃ t, poll (withEvent .high 100 (st 36 0 0 0 0 0 false false)) = .next t ∧ t.ci = true) ∧
    (∃ t, poll (withEvent .low 900 (st 37 0 0 0 0 0 false true)) = .next t ∧ t.ci = false) ∧
    ∃ t, poll (withEvent .high 300 (st 37 0 0 0 0 0 false true)) = .next t ∧ t.ci = false :=
  ⟨⟨_, rfl, rfl⟩, ⟨_, rfl, rfl⟩, _, rfl, rfl⟩

/-- An instruction of each level, with intent and without. -/
theorem test_witness_OperationsTouchOnlyTheirOutputs :
    (∃ t, exec (.posB35 true) (st 36 34 12 0 0 0 true false) = .next t) ∧
    (∃ t, exec (.lowOrdinary 900) (st 41 34 12 0 0 0 true false) = .next t) ∧
    ∃ t, exec (.lowStart 1800) (st 37 34 12 0 0 0 false true) = .next t := ⟨⟨_, rfl⟩, ⟨_, rfl⟩, _, rfl⟩

theorem test_witness_OutputsAndClockAreNeverReadBack :
    (∃ t, exec (.lowOrdinary 0) (st 37 34 12 0 0 0 false true) = .next t) ∧
    ∃ t, exec (.highInvalid 40) (st 37 34 12 0 0 0 false true) = .next t := ⟨⟨_, rfl⟩, _, rfl⟩

theorem test_witness_DurationsOfOneWindowActAlike : ∀ mk ∈ [Instr.highZero, Instr.highOne, Instr.highInvalid,
    Instr.lowStart, Instr.lowOrdinary], ∃ t, exec (mk 100) (st 37 34 12 0 0 0 false true) = .next t := by
  intro mk h
  simp only [List.mem_cons, List.not_mem_nil, or_false] at h
  rcases h with h | h | h | h | h <;> subst h <;> exact ⟨_, rfl⟩

/-- 95_test_vectors.md S6: bits, an invalid pulse and an ordinary low period, without a start marker. -/
theorem test_witness_NoStartMarkerStaysAtWait :
    (∀ w ∈ [wordHigh 100, wordHigh 200, wordHigh 135, wordLow 1600, wordLow 2000], ∀ d, decodeEv w ≠ .lowStart d) ∧
    State.reset.ds = 0 ∧ (∀ f, State.reset.getX f = 0) ∧ State.reset.par = false ∧ State.reset.ci = false := by
  refine ⟨?_, rfl, fun f => by cases f <;> rfl, rfl, rfl⟩
  intro w h d
  simp only [List.mem_cons, List.not_mem_nil, or_false] at h
  rcases h with h | h | h | h | h <;> subst h <;> exact nofun

/-- The minute 34 (`+4`, `+10`, `+20`): both values of the parity bit. -/
theorem test_witness_MinuteGroupIsDecidedByItsParity :
    (st 22 0 0 0 0 0 false false).ds = codeB 21 ∧ (digitBits 3 34).length = 7 ∧
    true = ((st 22 0 0 0 0 0 false false).par ^^ xorAll (digitBits 3 34)) ∧
    false ≠ ((st 22 0 0 0 0 0 false false).par ^^ xorAll (digitBits 3 34)) := by decide

theorem test_witness_HourGroupIsDecidedByItsParity :
    (st 30 34 0 0 0 0 false false).ds = codeB 29 ∧ (digitBits 2 12).length = 6 ∧
    false = ((st 30 34 0 0 0 0 false false).par ^^ xorAll (digitBits 2 12)) ∧
    true ≠ ((st 30 34 0 0 0 0 false false).par ^^ xorAll (digitBits 2 12)) := by decide

theorem test_witness_DateGroupIsDecidedByItsParity :
    (st 37 0 0 0 0 0 false false).ds = codeB 36 ∧ (digitBits 2 10).length = 6 ∧ (lsbFirst 3 2).length = 3 ∧
    (digitBits 1 11).length = 5 ∧ (digitBits 4 26).length = 8 ∧
    (∃ p, p = ((st 37 0 0 0 0 0 false false).par ^^ xorAll (digitBits 2 10 ++ lsbFirst 3 2 ++ digitBits 1 11 ++ digitBits 4 26))) ∧
    ∃ p, p ≠ ((st 37 0 0 0 0 0 false false).par ^^ xorAll (digitBits 2 10 ++ lsbFirst 3 2 ++ digitBits 1 11 ++ digitBits 4 26)) := by
  decide

/-- The largest value of every field, from a state at `B0` and one at `B36`. -/
theorem test_witness_CleanFrameDeliversItsFields :
    (79 ≤ 79 ∧ 39 ≤ 39 ∧ 7 ≤ 7 ∧ 19 ≤ 19 ∧ 99 ≤ 99) ∧
    (st 1 0 0 10 11 26 false false).ds = codeB 0 ∧ (st 1 0 0 10 11 26 false false).par = false ∧
    (st 1 0 0 10 11 26 false false).xMin = 0 ∧ (st 1 0 0 10 11 26 false false).xHour = 0 ∧
    (st 1 0 0 10 11 26 false false).ci = false ∧
    (st 37 34 12 0 0 0 false true).ds = codeB 36 ∧ (st 37 34 12 0 0 0 false true).par = false ∧
    (st 37 34 12 0 0 0 false true).xDay = 0 ∧ (st 37 34 12 0 0 0 false true).xMonth = 0 ∧
    (st 37 34 12 0 0 0 false true).xYear = 0 := by decide

/-- The shortest and the longest start marker, then the frames of 12:34 and 12:35, from the reset state. -/
theorem test_witness_RoundTripDeliversTheDecrementedTime :
    (34 ≤ 59 ∧ 12 ≤ 23 ∧ 10 ≤ 39 ∧ 2 ≤ 7 ∧ 11 ≤ 19 ∧ 26 ≤ 99 ∧ 35 ≤ 59) ∧ ∀ m ∈ [1601, 1999], 1601 ≤ m ∧ m ≤ 1999 ∧
      ∃ s : State, (∀ f, s.getX f = 0) ∧ s.par = false ∧ s.ci = false ∧ s.midnightRule = .corrected ∧
        s.agenda = present (wordLow m :: (frameWords 34 12 10 2 11 26 ++ frameWords 35 12 10 2 11 26)) := by
  refine ⟨by decide, fun m h => ⟨?_, ?_, { State.reset with
      agenda := present (wordLow m :: (frameWords 34 12 10 2 11 26 ++ frameWords 35 12 10 2 11 26)) },
    fun f => by cases f <;> rfl, rfl, rfl, rfl, rfl⟩⟩ <;>
  · simp only [List.mem_cons, List.not_mem_nil, or_false] at h
    omega

end Sys2Proof.Tests
end

section
/-! SUPPORT. The correction of a decoded time (R10, R223): what `correctTime` answers as numbers on every pair of bytes, and what
that is for a time of day. -/

namespace Sys2Proof.Machine

open Sys2Proof.Statements

/-! ## The correction on bytes -/

/-- A value other than 0 is reduced without wrapping. -/
theorem Val.toNat_sub_one_of_ne_zero {v : Val} (hv : v ≠ 0) : v.toNat ≠ 0 ∧ (v - 1).toNat = v.toNat - 1 := by
  constructor <;> bv_omega

theorem correctTime_of_ne_zero {m : Val} (h : Val) (hm : m ≠ 0) : correctTime m h = (m - 1, h) := if_neg hm

theorem correctTime_zero_zero : correctTime 0 0 = (59, 23) := rfl

theorem correctTime_zero_of_ne_zero {h : Val} (hh : h ≠ 0) : correctTime 0 h = (59, h - 1) :=
  congrArg (Prod.mk 59) (if_neg hh)

/-- R223: the corrected pair as numbers; each underflow rule fires at 0 alone, so no other byte wraps. -/
theorem correctTime_toNat (m h : Val) :
    (correctTime m h).1.toNat = minuteBefore m ∧ (correctTime m h).2.toNat = hourBefore m h := by
  by_cases hm : m = 0
  · subst hm
    by_cases hh : h = 0
    · subst hh; exact ⟨rfl, rfl⟩
    · obtain ⟨hpos, hsub⟩ := Val.toNat_sub_one_of_ne_zero hh
      rw [correctTime_zero_of_ne_zero hh]
      exact ⟨rfl, hsub.trans (by simp [hourBefore, hpos])⟩
  · obtain ⟨hpos, hsub⟩ := Val.toNat_sub_one_of_ne_zero hm
    rw [correctTime_of_ne_zero h hm]
    exact ⟨hsub.trans (if_neg hpos).symm, (if_neg hpos).symm⟩

/-! ## The clock of 1440 minutes -/

theorem minuteBefore_le {m : Val} (hm : m.toNat ≤ 59) : minuteBefore m ≤ 59 := by
  unfold minuteBefore; split <;> omega

theorem hourBefore_le (m : Val) {h : Val} (hh : h.toNat ≤ 23) : hourBefore m h ≤ 23 := by
  unfold hourBefore; split_ifs <;> omega

/-- R10: of the three cases only 0:00 passes the end of the clock; 1439 is one minute less modulo 1440. -/
theorem minuteOfDay_before {m h : Val} (hm : m.toNat ≤ 59) (hh : h.toNat ≤ 23) :
    hourBefore m h * 60 + minuteBefore m = (h.toNat * 60 + m.toNat + 1439) % 1440 := by
  unfold hourBefore minuteBefore
  by_cases hm0 : m.toNat = 0
  · by_cases hh0 : h.toNat = 0
    · simp [hm0, hh0]
    · simp only [hm0, hh0, if_true, if_false]; omega
  · simp only [hm0, if_false]; omega

/-- Settles O31: the underflow rules on bytes, and from them the clock of 1440 minutes. -/
theorem correctionIsOneMinuteEarlier : Obligations.CorrectionIsOneMinuteEarlier := by
  intro m h
  obtain ⟨minute, hour⟩ := correctTime_toNat m h
  refine ⟨fun hm hh => ?_, minute, hour⟩
  rw [minute, hour]
  exact ⟨minuteBefore_le hm, hourBefore_le m hh, minuteOfDay_before hm hh⟩

end Sys2Proof.Machine
end

section
/-! SUPPORT. The state's invariants and transitions (10_state R23, R27, R33, R34): where a poll takes `ds`, what raises and lowers
`ci`, what it leaves in the delivered records, and the runs that follow. -/

namespace Sys2Proof.Machine

open Sys2Proof.Statements

/-! ## The shared operations, field by field -/

@[simp] theorem failRecovery_ds (k : FailKind) (s : State) : (failRecovery k s).ds = 0 := rfl
@[simp] theorem failRecovery_ci (k : FailKind) (s : State) : (failRecovery k s).ci = false := rfl
@[simp] theorem failRecovery_out (k : FailKind) (s : State) :
    (failRecovery k s).out = s.out ++ [ev .onReadFailed 0] := rfl

@[simp] theorem acceptStartMarker_ds (s : State) : (acceptStartMarker s).ds = 1 := rfl

/-- R229: `Commit` does not write `ds`, and so neither does its check. -/
@[simp] theorem commitCheck_ds (s : State) : (commitCheck s).ds = s.ds := by
  obtain ⟨-, h⟩ | ⟨-, h⟩ := commitCheck_cases s
  · rw [h, commit_eq]
  · rw [h]

/-- R27, R116: after the commit check no intent is left. -/
@[simp] theorem commitCheck_ci (s : State) : (commitCheck s).ci = false := by
  obtain ⟨-, h⟩ | ⟨hci, h⟩ := commitCheck_cases s
  · rw [h, commit_eq]
  · rw [h, hci]

/-- R116, R220: what the commit check delivers. -/
theorem commitCheck_out (s : State) :
    (commitCheck s).out = s.out ++ if s.ci = true then commitOutputs s else [] := by
  obtain ⟨hci, h⟩ | ⟨hci, h⟩ := commitCheck_cases s
  · rw [h, commit_eq, if_pos hci]
  · simp [h, hci]

theorem commitCheck_out_getLast {s : State} (hci : s.ci = true) :
    (commitCheck s).out.getLast? = some (ev .onSignalCommitted 0) := by
  simp [commitCheck_out, hci, commitOutputs]

/-! ## The transitions of ds -/

/-- R138: a position rule returns to `WAIT` or, from `B0` to `B57`, goes to the next position. -/
theorem AcceptCase.ds_moves {c : Code} {s t : State} (h : AcceptCase c s t) (hs : s.ds = c) :
    t.ds = 0 ∨ (1 ≤ c.toNat ∧ c.toNat ≤ 58 ∧ t.ds = c + 1) := by
  cases h with
  | ignored hc ht => exact .inl (by rw [ht, hs]; exact BitVec.eq_of_toNat_eq hc)
  | failed _ k ht => exact .inl (by rw [ht, failRecovery_ds])
  | advanced lo hi ds =>
    by_cases h59 : c.toNat = 59
    · exact .inl (BitVec.eq_of_toNat_eq (by rw [ds, h59]; rfl))
    · exact .inr ⟨lo, by omega, by bv_omega⟩

theorem EventCase.ds_of_high {s t : State} (h : EventCase s t) (hl : s.slot.level = .high) :
    t.ds = 0 ∨ (1 ≤ s.ds.toNat ∧ s.ds.toNat ≤ 58 ∧ t.ds = s.ds + 1) := by
  cases h with
  | zero _ _ h => exact h.ds_moves rfl
  | one _ _ h => exact h.ds_moves rfl
  | invalid _ _ h => exact .inl (by rw [h, failRecovery_ds])
  | start hl' => cases hl.symm.trans hl'
  | ordinary hl' => cases hl.symm.trans hl'

theorem EventCase.ds_of_low {s t : State} (h : EventCase s t) (hl : s.slot.level = .low) :
    t.ds = if classifyLow s.slot.dur = .startMarker then 1 else s.ds := by
  cases h with
  | zero hl' => cases hl.symm.trans hl'
  | one hl' => cases hl.symm.trans hl'
  | invalid hl' => cases hl.symm.trans hl'
  | start _ hc h => rw [if_pos hc, h, commitCheck_ds, acceptStartMarker_ds]
  | ordinary _ hc h => simp [hc, h]

/-- Settles O48: the inversion of `Poll`, with what each event does to `ds`. -/
theorem dsMovesOnlyAsListed : Obligations.DsMovesOnlyAsListed := by
  intro s t h
  obtain ⟨hf, rfl⟩ | ⟨hf, he⟩ := poll_cases h
  · simp [hf]
  · exact ⟨fun hf' => by simp [hf] at hf', fun _ => he.ds_of_low, fun _ => he.ds_of_high⟩

/-- R34: of the listed transitions none leaves the codes of `WAIT` and `B0` to `B58`. -/
theorem poll_keeps_dsReachable {s t : State} (hs : s.dsReachable) (h : poll s = .next t) : t.dsReachable := by
  obtain ⟨hempty, hlow, hhigh⟩ := dsMovesOnlyAsListed s t h
  cases hf : s.slot.full
  · rw [hempty hf]; exact hs
  · cases hl : s.slot.level
    · simp only [State.dsReachable, hlow hf hl]
      split
      · decide
      · exact hs
    · obtain h0 | ⟨-, hi, h1⟩ := hhigh hf hl
      · simp [State.dsReachable, h0]
      · simp only [State.dsReachable, h1]; bv_omega

/-- Settles O42: a poll moves `ds` as listed, reset puts it at `WAIT`, and no other agent writes it. -/
theorem everyStepKeepsDsReachable : Obligations.EveryStepKeepsDsReachable := fun _ _ hs h =>
  step_keeps State.dsReachable (agenda := fun _ _ hs => hs) (poll_ := fun _ _ => poll_keeps_dsReachable)
    (capture := fun _ _ _ hs => hs) (clk := fun _ _ hs => hs) (kdate := fun _ _ hs => hs)
    (reset := fun _ _ => Nat.zero_le 59) hs h

/-! ## The delivered commits -/

/-- R58, R66, R228: the records of one `Commit` are a well-formed trace. -/
theorem commitOutputs_wellFormed (s : State) : commitsWellFormed (commitOutputs s) = true := by
  simp [commitOutputs, commitsWellFormed, mirrors, mirrorRecord, commitRecord, secConst]

theorem emit_keeps_commits {c : DiagCode} (hc : c ≠ .onSignalCommitted) (d : Dur) {s : State}
    (hs : commitsWellFormed s.out = true) : commitsWellFormed (s.emit c d).out = true :=
  commitsWellFormed_append hs (by simp [commitsWellFormed, hc])

theorem failRecovery_keeps_commits (k : FailKind) {s : State} (hs : commitsWellFormed s.out = true) :
    commitsWellFormed (failRecovery k s).out = true :=
  commitsWellFormed_append hs (by decide)

theorem acceptStartMarker_keeps_commits {s : State} (hs : commitsWellFormed s.out = true) :
    commitsWellFormed (acceptStartMarker s).out = true :=
  commitsWellFormed_append hs (by decide)

theorem commitCheck_keeps_commits {s : State} (hs : commitsWellFormed s.out = true) :
    commitsWellFormed (commitCheck s).out = true := by
  rw [commitCheck_out]
  refine commitsWellFormed_append hs ?_
  split
  · exact commitOutputs_wellFormed s
  · rfl

theorem AcceptCase.keeps_commits {c : Code} {s t : State} (h : AcceptCase c s t)
    (hs : commitsWellFormed s.out = true) : commitsWellFormed t.out = true := by
  cases h with
  | ignored _ ht => rw [ht]; exact hs
  | advanced _ _ _ out => rw [out]; exact hs
  | failed _ k ht => rw [ht]; exact failRecovery_keeps_commits k hs

theorem EventCase.keeps_commits {s t : State} (h : EventCase s t) (hs : commitsWellFormed s.out = true) :
    commitsWellFormed t.out = true := by
  have hs' : commitsWellFormed s.takeSlot.out = true := hs
  cases h with
  | zero _ _ h => exact h.keeps_commits (emit_keeps_commits (by decide) _ hs')
  | one _ _ h => exact h.keeps_commits (emit_keeps_commits (by decide) _ hs')
  | invalid _ _ h => rw [h]; exact failRecovery_keeps_commits _ (emit_keeps_commits (by decide) _ hs')
  | start _ _ h =>
    rw [h]
    exact commitCheck_keeps_commits (acceptStartMarker_keeps_commits (emit_keeps_commits (by decide) _ hs'))
  | ordinary _ _ h => rw [h]; exact commitCheck_keeps_commits hs'

theorem poll_keeps_commits {s t : State} (hs : commitsWellFormed s.out = true) (h : poll s = .next t) :
    commitsWellFormed t.out = true := by
  obtain ⟨-, rfl⟩ | ⟨-, he⟩ := poll_cases h
  · exact hs
  · exact he.keeps_commits hs

/-- R61: only a poll delivers, so a step keeps the commits well formed. -/
theorem step_keeps_commits {s t : State} (hs : commitsWellFormed s.out = true) (h : step s = .next t) :
    commitsWellFormed t.out = true :=
  step_keeps (fun s => commitsWellFormed s.out = true) (agenda := fun _ _ hs => hs)
    (poll_ := fun _ _ => poll_keeps_commits) (capture := fun _ _ _ hs => hs) (clk := fun _ _ hs => hs)
    (kdate := fun _ _ hs => hs) (reset := fun _ hs => hs) hs h

/-! ## Runs -/

theorem poll_next (s : State) : ∃ t, poll s = .next t := by
  cases hf : s.slot.full
  · exact ⟨s, poll_empty hf⟩
  · rw [poll_full hf]; exact exec_next _ _

/-- R121, R284: no step stops, whichever agent's turn it is. -/
theorem step_next (s : State) : ∃ t, step s = .next t := by
  cases ha : s.agenda with
  | nil => rw [step_poll_nil ha]; exact poll_next s
  | cons a rest =>
    rw [step_cons ha]
    cases a with
    | poll => exact poll_next _
    | capture l ms => exact ⟨_, rfl⟩
    | writeClk c => exact ⟨_, rfl⟩
    | supplyKDate k => exact ⟨_, rfl⟩
    | reset => exact ⟨_, rfl⟩

theorem run_succ {s t : State} (n : Nat) (h : step s = .next t) : core.run (n + 1) s = core.run n t := by
  have hcore : core.step s = .next t := h
  simp only [Host.Core.run, hcore]

/-- The induction over the steps of a run, packaged once: what every step keeps holds at the end of a run, which goes through. -/
theorem run_keeps (P : State → Prop) (keeps : ∀ s t, P s → step s = .next t → P t) (n : Nat) {s : State} (hs : P s) :
    ∃ t : State, core.run n s = .next t ∧ P t := by
  induction n generalizing s with
  | zero => exact ⟨s, rfl, hs⟩
  | succ n ih =>
    obtain ⟨u, hu⟩ := step_next s
    rw [run_succ n hu]
    exact ih (keeps s u hs hu)

/-- Settles O46: each step keeps both invariants, so every run does. -/
theorem everyRunStaysSafe : Obligations.EveryRunStaysSafe := by
  intro n s hds hout
  obtain ⟨t, hrun, ht⟩ := run_keeps (fun s => s.dsReachable ∧ commitsWellFormed s.out = true)
    (fun s u ⟨hds, hout⟩ h => ⟨everyStepKeepsDsReachable s u hds h, step_keeps_commits hout h⟩) n ⟨hds, hout⟩
  rw [hrun]
  exact ht

/-! ## CommitIntent -/

/-- R176: the rule of `B35` leaves `ci` set only when the bit matched `par`. -/
theorem acceptAt_hourParity_ci {b : Bool} {s t : State} (h : acceptAt 36 b s = .next t) (ht : t.ci = true) :
    s.par = b ∧ t.ds = 37 := by
  have hrule : acceptHourParity (codeB 36) b s = t := Host.Outcome.next.inj h
  obtain ⟨hpar, e⟩ | ⟨-, e⟩ := acceptHourParity_cases s (codeB 36) b
  · rw [← hrule, e]; exact ⟨hpar, rfl⟩
  · rw [← hrule, e] at ht; cases ht

/-- R27: the one position rule that raises `ci` is that of `B35`. -/
theorem acceptAt_raises_ci {c : Code} {b : Bool} {s t : State} (h : acceptAt c b s = .next t) (hs : s.ci = false)
    (ht : t.ci = true) : c = 36 ∧ t.ds = 37 ∧ s.par = b := by
  obtain ⟨u, hu, hcase⟩ := acceptAt_cases c b s
  cases hu.symm.trans h
  have h36 : c = 36 := by
    cases hcase with
    | ignored _ e => rw [e, hs] at ht; cases ht
    | advanced _ _ _ _ ci => exact BitVec.eq_of_toNat_eq (by simpa [hs, ht] using ci)
    | failed _ k e => rw [e] at ht; cases ht
  rw [h36] at h
  obtain ⟨hpar, hds⟩ := acceptAt_hourParity_ci h ht
  exact ⟨h36, hds, hpar⟩

theorem EventCase.raises_ci {s t : State} (h : EventCase s t) (hs : s.ci = false) (ht : t.ci = true) :
    s.slot.level = .high ∧ s.ds = 36 ∧ t.ds = 37 ∧
    (s.par = false ∧ classifyHigh s.slot.dur = .zero ∨ s.par = true ∧ classifyHigh s.slot.dur = .one) := by
  cases h with
  | zero hl hc _ run =>
    obtain ⟨hds, hds', hpar⟩ := acceptAt_raises_ci run hs ht
    exact ⟨hl, hds, hds', .inl ⟨hpar, hc⟩⟩
  | one hl hc _ run =>
    obtain ⟨hds, hds', hpar⟩ := acceptAt_raises_ci run hs ht
    exact ⟨hl, hds, hds', .inr ⟨hpar, hc⟩⟩
  | invalid _ _ h => simp [h] at ht
  | start _ _ h => simp [h] at ht
  | ordinary _ _ h => simp [h] at ht

/-- R27: the one thing that lowers `ci` when a bit is accepted is a failure. -/
theorem AcceptCase.lowers_ci {c : Code} {s t : State} (h : AcceptCase c s t) (hs : s.ci = true) (ht : t.ci = false) :
    t.out.getLast? = some (ev .onReadFailed 0) := by
  cases h with
  | ignored _ e => rw [e, hs] at ht; cases ht
  | advanced _ _ _ _ ci => simp [ci, hs] at ht
  | failed _ k e => simp [e]

theorem EventCase.lowers_ci {s t : State} (h : EventCase s t) (hs : s.ci = true) (ht : t.ci = false) :
    s.slot.level = .low ∧ t.out.getLast? = some (ev .onSignalCommitted 0) ∨
    s.slot.level = .high ∧ t.out.getLast? = some (ev .onReadFailed 0) := by
  cases h with
  | zero hl _ h => exact .inr ⟨hl, h.lowers_ci hs ht⟩
  | one hl _ h => exact .inr ⟨hl, h.lowers_ci hs ht⟩
  | invalid hl _ h => exact .inr ⟨hl, by simp [h]⟩
  | start hl _ h => exact .inl ⟨hl, by rw [h]; exact commitCheck_out_getLast hs⟩
  | ordinary hl _ h => exact .inl ⟨hl, by rw [h]; exact commitCheck_out_getLast hs⟩

/-- Settles O49: the inversion of `Poll`, with the events that raise and that lower `ci`. -/
theorem intentIsSetOnlyByHourParity : Obligations.IntentIsSetOnlyByHourParity := by
  intro s t h
  obtain ⟨-, rfl⟩ | ⟨hf, he⟩ := poll_cases h
  · exact ⟨fun hs ht => by simp [hs] at ht, fun hs ht => by simp [hs] at ht⟩
  · exact ⟨fun hs ht => ⟨hf, he.raises_ci hs ht⟩, fun hs ht => ⟨hf, he.lowers_ci hs ht⟩⟩

/-! ## Reset -/

@[simp] theorem State.getX_reset (f : Field) : State.reset.getX f = 0 := by cases f <;> rfl

/-- Settles O38: the values of R33, field by field. -/
theorem resetStateOfTheSpec : Obligations.ResetStateOfTheSpec := ⟨rfl, State.getX_reset, rfl, rfl, rfl, rfl⟩

/-- Settles O43: `WAIT` is code 0. -/
theorem resetDsIsReachable : Obligations.ResetDsIsReachable := ⟨Nat.zero_le 59, rfl⟩

/-- Settles O45: nothing is delivered at reset. -/
theorem resetCommitsWellFormed : Obligations.ResetCommitsWellFormed := ⟨rfl, rfl⟩

end Sys2Proof.Machine
end

section
/-! SUPPORT. The interface spaces (20_memory): the frame of every operation, the `RTC` and `CLK` writes of a poll, the outputs and
the clock state as things no operation reads, and the other agents. -/

namespace Sys2Proof.Machine

open Sys2Proof.Statements

/-! ## Delivering events alone -/

/-- R50, R61: `t` comes from `s` by an operation that writes no space but `DIAG`. -/
structure OnlyEvents (s t : State) : Prop extends SameOutside s t where
  out : ∃ l : List DiagRec, t.out = s.out ++ l.map .diag

theorem OnlyEvents.refl (s : State) : OnlyEvents s s := ⟨.refl s, [], (List.append_nil _).symm⟩

theorem OnlyEvents.trans {s t u : State} (h : OnlyEvents s t) (k : OnlyEvents t u) : OnlyEvents s u := by
  obtain ⟨l, hl⟩ := h.out
  obtain ⟨m, hm⟩ := k.out
  exact ⟨h.toSameOutside.trans k.toSameOutside, l ++ m, by rw [hm, hl, List.map_append, List.append_assoc]⟩

theorem onlyEvents_emit (s : State) (c : DiagCode) (d : Dur) : OnlyEvents s (s.emit c d) :=
  ⟨⟨rfl, rfl, rfl, rfl, rfl⟩, [⟨c, d⟩], rfl⟩

theorem onlyEvents_failRecovery (k : FailKind) (s : State) : OnlyEvents s (failRecovery k s) :=
  ⟨⟨rfl, rfl, rfl, rfl, rfl⟩, [⟨.onReadFailed, 0⟩], rfl⟩

theorem onlyEvents_acceptStartMarker (s : State) : OnlyEvents s (acceptStartMarker s) :=
  ⟨⟨rfl, rfl, rfl, rfl, rfl⟩, [⟨.onReadStarted, 0⟩], rfl⟩

theorem AcceptCase.onlyEvents {c : Code} {s t : State} (h : AcceptCase c s t) : OnlyEvents s t := by
  cases h with
  | ignored _ ht => rw [ht]; exact .refl s
  | advanced _ _ _ out _ same => exact ⟨same, [], out.trans (List.append_nil _).symm⟩
  | failed _ k ht => rw [ht]; exact onlyEvents_failRecovery k s

/-- Events add nothing to the other two sinks. -/
theorem OnlyEvents.records {s t : State} (h : OnlyEvents s t) :
    rtcRecords t.out = rtcRecords s.out ∧ clkRecords t.out = clkRecords s.out := by
  obtain ⟨l, hl⟩ := h.out
  simp [hl, rtcRecords, clkRecords, List.filterMap_map]

/-! ## The operations that commit -/

/-- R114 to R116: the operations that run `Commit`, and the state in which they do. -/
abbrev Commits (i : Instr) (s : State) : Prop := s.ci = true ∧ ∃ d, i = .lowStart d ∨ i = .lowOrdinary d

/-- R116: an event selects an operation that commits exactly when it is low and `ci` is 1. -/
theorem commits_decodeEvent_iff (l : Level) (d : Dur) (s : State) :
    Commits (decodeEvent l d) s ↔ l = .low ∧ s.ci = true := by
  cases l
  · cases h : classifyLow d <;> simp [Commits, decodeEvent, h]
  · cases h : classifyHigh d <;> simp [Commits, decodeEvent, h]

/-- R116: without an intent a low event commits nothing. -/
theorem commitCheck_of_not_ci {s : State} (h : s.ci ≠ true) : commitCheck s = s := if_neg h

theorem commitCheck_of_ci {s : State} (h : s.ci = true) : commitCheck s = commit s := if_pos h

/-- An operation that does not commit delivers events and touches no other space. -/
theorem exec_onlyEvents {i : Instr} {s t : State} (h : exec i s = .next t) (hno : ¬ Commits i s) : OnlyEvents s t := by
  have position {c : Code} {b : Bool} {u : State} (h : exec (decodePos c b) u = .next t) : OnlyEvents u t := by
    obtain ⟨v, hv, hcase⟩ := exec_position_cases c b u
    cases hv.symm.trans h
    exact hcase.onlyEvents
  cases i.twoLevel with
  | highZero d => rw [exec_highZero] at h; exact (onlyEvents_emit ..).trans (position h)
  | highOne d => rw [exec_highOne] at h; exact (onlyEvents_emit ..).trans (position h)
  | highInvalid d =>
    rw [exec_highInvalid] at h; cases h
    exact (onlyEvents_emit ..).trans (onlyEvents_failRecovery ..)
  | lowStart d =>
    have hci : s.ci ≠ true := fun hci => hno ⟨hci, d, .inl rfl⟩
    rw [← Host.Outcome.next.inj h, commitCheck_of_not_ci]
    · exact (onlyEvents_emit ..).trans (onlyEvents_acceptStartMarker _)
    · exact hci
  | lowOrdinary d =>
    have hci : s.ci ≠ true := fun hci => hno ⟨hci, d, .inr rfl⟩
    rw [← Host.Outcome.next.inj h, commitCheck_of_not_ci hci]
    exact .refl s
  | position c b => exact position h

/-- An operation that commits delivers its events first. -/
theorem exec_commits {i : Instr} {s t : State} (h : exec i s = .next t) (hc : Commits i s) :
    ∃ u, OnlyEvents s u ∧ t = commit u := by
  obtain ⟨hci, d, rfl | rfl⟩ := hc
  · exact ⟨_, (onlyEvents_emit s .onStart d).trans (onlyEvents_acceptStartMarker _),
      (Host.Outcome.next.inj h).symm.trans (commitCheck_of_ci hci)⟩
  · exact ⟨s, .refl s, (Host.Outcome.next.inj h).symm.trans (commitCheck_of_ci hci)⟩

/-! ## The frame of every operation -/

/-- R50, R57, R61: what every operation leaves of the mailbox, the known date, the parameter, the agenda and the records delivered
before. -/
structure OutputFrame (s t : State) : Prop where
  slot : t.slot = s.slot
  kdate : t.kdate = s.kdate
  midnightRule : t.midnightRule = s.midnightRule
  agenda : t.agenda = s.agenda
  out : ∃ l, t.out = s.out ++ l

theorem OnlyEvents.outputFrame {s t : State} (h : OnlyEvents s t) : OutputFrame s t :=
  ⟨h.slot, h.kdate, h.midnightRule, h.agenda, h.out.imp' _ fun _ => id⟩

theorem OnlyEvents.outputFrame_commit {s u : State} (h : OnlyEvents s u) : OutputFrame s (commit u) := by
  obtain ⟨l, hl⟩ := h.out
  rw [commit_eq]
  exact ⟨h.slot, h.kdate, h.midnightRule, h.agenda, l.map .diag ++ commitOutputs u, by simp [hl]⟩

theorem exec_outputFrame {i : Instr} {s t : State} (h : exec i s = .next t) : OutputFrame s t := by
  by_cases hc : Commits i s
  · obtain ⟨u, hu, rfl⟩ := exec_commits h hc
    exact hu.outputFrame_commit
  · exact (exec_onlyEvents h hc).outputFrame

/-- Settles O50: the frame of every operation, and the clock state by whether the operation commits. -/
theorem operationsTouchOnlyTheirOutputs : Obligations.OperationsTouchOnlyTheirOutputs := by
  intro i s t h
  obtain ⟨slot, kdate, rule, agenda, out⟩ := exec_outputFrame h
  refine ⟨slot, kdate, rule, agenda, out, fun hquiet => (exec_onlyEvents h ?_).clk⟩
  rintro ⟨hci, d, hlow⟩
  obtain hother | hci' := hquiet
  · exact hlow.elim (hother d).1 (hother d).2
  · simp [hci] at hci'

/-! ## Poll -/

/-- Settles O33: the event taken commits, and `Commit` writes one record to each sink, or it delivers events alone. -/
theorem rtcIsWrittenExactlyByLowEventsWithIntent : Obligations.RtcIsWrittenExactlyByLowEventsWithIntent := by
  intro s t h
  cases hf : s.slot.full
  · rw [poll_empty hf] at h; cases h
    simp
  rw [poll_full hf] at h
  have hiff := commits_decodeEvent_iff s.slot.level s.slot.dur s.takeSlot
  constructor
  · rintro ⟨-, hlow⟩
    obtain ⟨u, hu, rfl⟩ := exec_commits h (hiff.mpr hlow)
    obtain ⟨hrtc, hclk, -⟩ := commit_records u
    obtain ⟨urtc, uclk⟩ := hu.records
    refine ⟨?_, ?_, by rw [commit_eq]⟩
    · rw [hrtc, urtc]; simp
    · rw [hclk, uclk]; simp
  · intro hno
    have hu := exec_onlyEvents h fun hc => hno ⟨rfl, hiff.mp hc⟩
    exact ⟨hu.records.1, hu.records.2, hu.clk⟩

/-- R53: whatever the mailbox held, a poll leaves it empty. -/
theorem poll_slot_full {s t : State} (h : poll s = .next t) : t.slot.full = false := by
  cases hf : s.slot.full
  · rw [poll_empty hf] at h; cases h; exact hf
  · rw [poll_full hf] at h
    rw [(exec_outputFrame h).slot]; rfl

/-- Settles O15: the first poll empties the mailbox, and a capture write keeps nothing of the slot. -/
theorem anEventIsConsumedAtMostOnce : Obligations.AnEventIsConsumedAtMostOnce :=
  ⟨fun _ _ h => ⟨poll_slot_full h, poll_empty (poll_slot_full h)⟩, fun _ _ _ _ _ => rfl⟩

/-- Settles O44: only a poll delivers, and `Commit` delivers its three records together. -/
theorem everyStepKeepsCommitsWellFormed : Obligations.EveryStepKeepsCommitsWellFormed :=
  fun _ _ => step_keeps_commits

/-! ## Outputs and clock state are not read -/

/-- R30, R61: `f` does the same, and delivers the same records, whatever was delivered before and whatever the clock state
holds. -/
def OutputBlind (f : State → Result) : Prop :=
  ∀ (s t : State) (o : List OutRec) (c : Clk), f s = .next t →
    ∃ (l : List OutRec) (c' : Clk), t.out = s.out ++ l ∧
      f { s with out := o, clk := c } = .next { t with out := o ++ l, clk := c' }

/-- What reads no outputs, after what reads no outputs. -/
theorem OutputBlind.comp {f : State → Result} {g : State → State} (hf : OutputBlind f)
    (hg : OutputBlind fun s => .next (g s)) : OutputBlind fun s => f (g s) := by
  intro s t o c h
  obtain ⟨l, c1, hl, hgs⟩ := hg s (g s) o c rfl
  obtain ⟨m, c2, hm, hft⟩ := hf (g s) t (o ++ l) c1 h
  refine ⟨l ++ m, c2, by rw [hm, hl, List.append_assoc], ?_⟩
  rw [← List.append_assoc]
  exact (congrArg f (Host.Outcome.next.inj hgs)).trans hft

theorem emit_outputBlind (e : DiagCode) (d : Dur) : OutputBlind fun s => .next (s.emit e d) := by
  rintro s _ o c ⟨⟩
  exact ⟨[ev e d], c, rfl, rfl⟩

theorem failRecovery_outputBlind (k : FailKind) : OutputBlind fun s => .next (failRecovery k s) := by
  rintro s _ o c ⟨⟩
  exact ⟨[ev .onReadFailed 0], c, rfl, rfl⟩

theorem acceptStartMarker_outputBlind : OutputBlind fun s => .next (acceptStartMarker s) := by
  rintro s _ o c ⟨⟩
  exact ⟨[ev .onReadStarted 0], c, rfl, rfl⟩

/-- R220: the records of `Commit` come from the accumulators, the known date and the parameter. -/
theorem commitCheck_outputBlind : OutputBlind fun s => .next (commitCheck s) := by
  rintro s _ o c ⟨⟩
  obtain ⟨hci, h⟩ | ⟨hci, h⟩ := commitCheck_cases s
  · have h' : commitCheck { s with out := o, clk := c } = commit { s with out := o, clk := c } := commitCheck_of_ci hci
    simp only [h, h', commit_eq]
    exact ⟨commitOutputs s, _, rfl, rfl⟩
  · have h' : commitCheck { s with out := o, clk := c } = { s with out := o, clk := c } :=
      commitCheck_of_not_ci (by simp [hci])
    simp only [h, h']
    exact ⟨[], c, (List.append_nil _).symm, by rw [List.append_nil]⟩

theorem acceptAt_outputBlind (p : Code) (b : Bool) : OutputBlind (acceptAt p b) := by
  intro s t o c h
  obtain ⟨l, hl, hrun⟩ := acceptAt_boundary p h o c s.slot s.agenda
  obtain ⟨u, hu, hcase⟩ := acceptAt_cases p b s
  cases hu.symm.trans h
  refine ⟨l, c, hl, hrun.trans ?_⟩
  rw [← hcase.onlyEvents.slot, ← hcase.onlyEvents.agenda]

theorem acceptBit_outputBlind (b : Bool) : OutputBlind (acceptBit b) :=
  fun s => acceptAt_outputBlind s.ds b s

theorem exec_outputBlind (i : Instr) : OutputBlind (exec i) := by
  cases i.twoLevel with
  | highZero d => exact (acceptBit_outputBlind false).comp (emit_outputBlind .onZero d)
  | highOne d => exact (acceptBit_outputBlind true).comp (emit_outputBlind .onOne d)
  | highInvalid d => exact (failRecovery_outputBlind .pulseTiming).comp (emit_outputBlind .onInvalid d)
  | lowStart d =>
    exact (commitCheck_outputBlind.comp acceptStartMarker_outputBlind).comp (emit_outputBlind .onStart d)
  | lowOrdinary d => exact commitCheck_outputBlind
  | position p b =>
    have hrule : exec (decodePos p b) = acceptAt p b := funext fun s => (acceptAt_eq_exec p b s).symm
    rw [hrule]; exact acceptAt_outputBlind p b

/-- Settles O51: neither the parts of an operation nor their sequence read the outputs or the clock state. -/
theorem outputsAndClockAreNeverReadBack : Obligations.OutputsAndClockAreNeverReadBack :=
  exec_outputBlind

/-! ## The other agents -/

/-- Settles O40: the capture write names all three fields of the slot. -/
theorem captureWriteOverwritesTheMailbox : Obligations.CaptureWriteOverwritesTheMailbox :=
  fun _ _ _ _ => ⟨rfl, rfl⟩

/-- R56: the delivered duration as a number. -/
theorem saturateDur_toNat (ms : Nat) : (saturateDur ms).toNat = min ms 32767 := by
  unfold saturateDur
  split
  · rw [Nat.min_eq_right ‹_›]; rfl
  · rw [BitVec.toNat_ofNat]; omega

/-- Settles O41: the turn is taken off the agenda and runs the agent's one write. -/
theorem otherAgentsTouchOnlyTheirState : Obligations.OtherAgentsTouchOnlyTheirState := by
  intro s rest
  refine ⟨fun l ms ha => ⟨saturateDur ms, saturateDur_toNat ms, ?_⟩, fun c ha => ?_, fun k ha => ?_, fun ha => ?_⟩
  · rw [step_cons ha]; rfl
  · rw [step_cons ha]; rfl
  · rw [step_cons ha]; rfl
  · rw [step_cons ha]; rfl

end Sys2Proof.Machine
end

section
/-! SUPPORT. The instructions' encoding (30_encoding R80 to R86): the windows of the classifier as the ranges of the operation
map, and the round trips of the two byte forms. -/

namespace Sys2Proof

open Sys2Proof.Machine

/-! ## The classifier as windows -/

theorem classifyHigh_eq_zero_iff (d : Dur) : classifyHigh d = .zero ↔ 40 < d.toNat ∧ d.toNat < 130 := by
  rw [← Dur.inside_iff]
  unfold classifyHigh
  split_ifs with hz ho <;> simp [hz]

/-- R118: the two windows of a high duration exclude each other. -/
theorem classifyHigh_eq_one_iff (d : Dur) : classifyHigh d = .one ↔ 140 < d.toNat ∧ d.toNat < 230 := by
  unfold classifyHigh
  simp only [Dur.inside_iff, zeroLo, zeroHi]
  split_ifs with hz ho
  · simp only [false_iff]; omega
  · simp [ho]
  · simp [ho]

theorem classifyHigh_eq_invalid_iff (d : Dur) : classifyHigh d = .invalid ↔
    ¬ (40 < d.toNat ∧ d.toNat < 130) ∧ ¬ (140 < d.toNat ∧ d.toNat < 230) := by
  rw [← classifyHigh_eq_zero_iff, ← classifyHigh_eq_one_iff]
  cases classifyHigh d <;> simp

theorem classifyLow_eq_startMarker_iff (d : Dur) :
    classifyLow d = .startMarker ↔ 1600 < d.toNat ∧ d.toNat < 2000 := by
  rw [← Dur.inside_iff]
  unfold classifyLow
  split_ifs with hm <;> simp [hm]

theorem classifyLow_eq_ordinary_iff (d : Dur) :
    classifyLow d = .ordinary ↔ ¬ (1600 < d.toNat ∧ d.toNat < 2000) := by
  rw [← classifyLow_eq_startMarker_iff]
  cases classifyLow d <;> simp

/-! ## The ranges of the operation map

R83, R118, R119: each operation's ranges are the durations that the classifier gives its symbol. -/

theorem highZero_wf_iff (d : Dur) : (Instr.highZero d).wf = true ↔ classifyHigh d = .zero := by
  rw [classifyHigh_eq_zero_iff, Instr.wf, Dur.between_iff]
  omega

theorem highOne_wf_iff (d : Dur) : (Instr.highOne d).wf = true ↔ classifyHigh d = .one := by
  rw [classifyHigh_eq_one_iff, Instr.wf, Dur.between_iff]
  omega

theorem highInvalid_wf_iff (d : Dur) : (Instr.highInvalid d).wf = true ↔ classifyHigh d = .invalid := by
  have hd := d.isLt
  rw [classifyHigh_eq_invalid_iff]
  simp only [Instr.wf, Bool.or_eq_true, Dur.between_iff]
  omega

theorem lowStart_wf_iff (d : Dur) : (Instr.lowStart d).wf = true ↔ classifyLow d = .startMarker := by
  rw [classifyLow_eq_startMarker_iff, Instr.wf, Dur.between_iff]
  omega

theorem lowOrdinary_wf_iff (d : Dur) : (Instr.lowOrdinary d).wf = true ↔ classifyLow d = .ordinary := by
  have hd := d.isLt
  rw [classifyLow_eq_ordinary_iff]
  simp only [Instr.wf, Bool.or_eq_true, Dur.between_iff]
  omega

/-! ## The operation a level and a duration select -/

theorem decodeEvent_highZero {d : Dur} (h : (Instr.highZero d).wf = true) : decodeEvent .high d = .highZero d := by
  simp only [decodeEvent, (highZero_wf_iff d).mp h]

theorem decodeEvent_highOne {d : Dur} (h : (Instr.highOne d).wf = true) : decodeEvent .high d = .highOne d := by
  simp only [decodeEvent, (highOne_wf_iff d).mp h]

theorem decodeEvent_highInvalid {d : Dur} (h : (Instr.highInvalid d).wf = true) :
    decodeEvent .high d = .highInvalid d := by
  simp only [decodeEvent, (highInvalid_wf_iff d).mp h]

theorem decodeEvent_lowStart {d : Dur} (h : (Instr.lowStart d).wf = true) : decodeEvent .low d = .lowStart d := by
  simp only [decodeEvent, (lowStart_wf_iff d).mp h]

theorem decodeEvent_lowOrdinary {d : Dur} (h : (Instr.lowOrdinary d).wf = true) :
    decodeEvent .low d = .lowOrdinary d := by
  simp only [decodeEvent, (lowOrdinary_wf_iff d).mp h]

/-- R83: the duration lies in the ranges of the operation selected, and its encoding is the word of its level and duration. -/
theorem decodeEvent_wf_and_encode (l : Level) (d : Dur) :
    (decodeEvent l d).wf = true ∧ encode (decodeEvent l d) = evBytes (evWord l d) := by
  cases l with
  | low =>
    cases hc : classifyLow d <;> simp only [decodeEvent, hc]
    · exact ⟨(lowStart_wf_iff d).mpr hc, rfl⟩
    · exact ⟨(lowOrdinary_wf_iff d).mpr hc, rfl⟩
  | high =>
    cases hc : classifyHigh d <;> simp only [decodeEvent, hc]
    · exact ⟨(highZero_wf_iff d).mpr hc, rfl⟩
    · exact ⟨(highOne_wf_iff d).mpr hc, rfl⟩
    · exact ⟨(highInvalid_wf_iff d).mpr hc, rfl⟩

theorem decodeEv_wf (w : EvWord) : (decodeEv w).wf = true := (decodeEvent_wf_and_encode w.level w.dur).1

theorem encode_decodeEv (w : EvWord) : encode (decodeEv w) = evBytes w := by
  rw [decodeEv, (decodeEvent_wf_and_encode w.level w.dur).2, evWord_level_dur]

/-! ## Round trips -/

/-- The decoder reads the word of a level and a duration as the operation they select. -/
theorem decode_evBytes_evWord {l : Level} {d : Dur} {i : Instr} (h : decodeEvent l d = i) :
    decode (evBytes (evWord l d)) = .ok i := by
  rw [decode_evBytes, decodeEv_evWord, h]

/-- Settles O2: the decoder reads each of the two byte forms back, and a well-formed event-word operation is the one its level and
duration select. -/
theorem decodeOfEncodeIsTheInstruction : Obligations.DecodeOfEncodeIsTheInstruction := by
  intro i hwf
  cases i.twoLevel with
  | highZero d => exact decode_evBytes_evWord (decodeEvent_highZero hwf)
  | highOne d => exact decode_evBytes_evWord (decodeEvent_highOne hwf)
  | highInvalid d => exact decode_evBytes_evWord (decodeEvent_highInvalid hwf)
  | lowStart d => exact decode_evBytes_evWord (decodeEvent_lowStart hwf)
  | lowOrdinary d => exact decode_evBytes_evWord (decodeEvent_lowOrdinary hwf)
  | position c b => rw [(encode_decodePos c b).1, decode_posByte]

/-- Settles O3: the operation decoded from the word is one, and the round trip leaves no other. -/
theorem everyEventWordSelectsOneOperation : Obligations.EveryEventWordSelectsOneOperation := by
  intro w
  refine ⟨⟨decodeEv w, ⟨decodeEv_wf w, encode_decodeEv w⟩, ?_⟩, decode_evBytes w, encode_decodeEv w,
    exec_next (decodeEv w)⟩
  rintro i ⟨hwf, henc⟩
  have hi : decode (evBytes w) = .ok i := henc ▸ decodeOfEncodeIsTheInstruction i hwf
  exact Except.ok.inj (hi.symm.trans (decode_evBytes w))

/-- Every byte with bit 7 clear is the packing of its code and its bit. -/
theorem posByte_of_bit7_clear {p : Byte} (h : p.getLsbD 7 = false) :
    posByte (p.extractLsb' 0 6) (p.getLsbD 6) = p := by
  apply BitVec.eq_of_getLsbD_eq
  intro i hi
  simp only [posByte, BitVec.getLsbD_append, BitVec.getLsbD_extractLsb', Nat.zero_add]
  obtain hlow | rfl | rfl : i < 6 ∨ i = 6 ∨ i = 7 := by omega
  · simp [hlow]
  · simp
  · simpa using h

theorem decode_wrongLength {l : List Byte} (h1 : l.length ≠ 1) (h2 : l.length ≠ 2) :
    decode l = .error .wrongLength := by
  match l with
  | [] => rfl
  | [_] => exact absurd rfl h1
  | [_, _] => exact absurd rfl h2
  | _ :: _ :: _ :: _ => rfl

/-- Settles O7: by the length of the byte string, and for one byte by its bit 7. -/
theorem positionBytesRoundTrip : Obligations.PositionBytesRoundTrip := by
  refine ⟨fun p h => ?_, fun lo hi => ⟨rfl, decodeEv_wf _, ?_⟩, fun p h => ?_, fun l => decode_wrongLength⟩
  · obtain ⟨henc, hwf⟩ := encode_decodePos (p.extractLsb' 0 6) (p.getLsbD 6)
    refine ⟨?_, hwf, by rw [henc, posByte_of_bit7_clear h]⟩
    rw [← decode_posByte, posByte_of_bit7_clear h]
  · rw [encode_decodeEv, evBytes_append]
  · simp [decode, h]

/-! ## The fields of an event word as numbers -/

theorem EvWord.toNat_dur (w : EvWord) : w.dur.toNat = w.toNat % 32768 := by
  simp [EvWord.dur, BitVec.extractLsb']

/-- R81: bit 15 is the level. -/
theorem EvWord.level_eq (w : EvWord) : w.level = if 32768 ≤ w.toNat then .high else .low := by
  have hbit : w.getLsbD 15 = true ↔ 32768 ≤ w.toNat := by
    rw [← BitVec.msb_eq_getLsbD_last (x := w), BitVec.msb_eq_decide]
    simp
  simp only [EvWord.level, hbit]

/-- Settles O4: the fields of the word as numbers, and the ranges of the operation map as well-formedness. -/
theorem eventWordRangesSelectOperations : Obligations.EventWordRangesSelectOperations := by
  intro w d hd
  obtain rfl : w.dur = d := BitVec.eq_of_toNat_eq (w.toNat_dur.trans hd.symm)
  have hlt := w.dur.isLt
  constructor
  · intro hhigh
    rw [decodeEv, w.level_eq, if_pos hhigh]
    refine ⟨fun h => decodeEvent_highZero ?_, fun h => decodeEvent_highOne ?_, fun h => decodeEvent_highInvalid ?_⟩
    · rwa [Instr.wf, Dur.between_iff]
    · rwa [Instr.wf, Dur.between_iff]
    · simp only [Instr.wf, Bool.or_eq_true, Dur.between_iff]; omega
  · intro hlow
    rw [decodeEv, w.level_eq, if_neg (by omega)]
    refine ⟨fun h => decodeEvent_lowStart ?_, fun h => decodeEvent_lowOrdinary ?_⟩
    · rwa [Instr.wf, Dur.between_iff]
    · simp only [Instr.wf, Bool.or_eq_true, Dur.between_iff]; omega

/-- Settles O1: ten words of the spec, read byte by byte. -/
theorem wordsOfTheSpecDecode : Obligations.WordsOfTheSpecDecode :=
  ⟨rfl, rfl, rfl, rfl, rfl, rfl, rfl, rfl, rfl, rfl⟩

end Sys2Proof
end

section
/-! SUPPORT. The packed records (30_encoding R90 to R95) as numbers, and the position table (R84 to R87) as data against the
meanings of the positions. -/

namespace Sys2Proof.Machine

open Sys2Proof.Statements

/-! ## Packed records -/

/-- R90: of two fields side by side the first is the more significant. -/
theorem toNat_append_eq_add {m n : Nat} (x : BitVec m) (y : BitVec n) :
    (x ++ y).toNat = x.toNat * 2 ^ n + y.toNat := by
  rw [BitVec.toNat_append, ← Nat.shiftLeft_add_eq_or_of_lt y.isLt, Nat.shiftLeft_eq]

/-- A field of a word is a quotient and a remainder of its number. -/
theorem extractLsb'_eq_of_toNat {w start len : Nat} {x : BitVec w} {y : BitVec len}
    (h : x.toNat / 2 ^ start % 2 ^ len = y.toNat) : x.extractLsb' start len = y := by
  apply BitVec.eq_of_toNat_eq
  rw [BitVec.extractLsb'_toNat, Nat.shiftRight_eq_div_pow, h]

/-- R90: the place of each field. -/
theorem RtcRec.toNat_pack (r : RtcRec) :
    r.pack.toNat = r.second.toNat * 2 ^ 48 + r.minute.toNat * 2 ^ 40 + r.hour.toNat * 2 ^ 32 + r.weekday.toNat * 2 ^ 24 +
      r.day.toNat * 2 ^ 16 + r.month.toNat * 2 ^ 8 + r.year.toNat := by
  simp only [RtcRec.pack, toNat_append_eq_add]; omega

theorem RtcRec.unpack_pack (r : RtcRec) : RtcRec.unpack r.pack = r := by
  have hpack := r.toNat_pack
  simp only [RtcRec.unpack]
  congr <;> exact extractLsb'_eq_of_toNat (by omega)

/-- R91: the place of each field. -/
theorem ClkRec.toNat_pack (r : ClkRec) :
    r.pack.toNat = r.dateWe.toNat * 2 ^ 48 + r.sec.toNat * 2 ^ 40 + r.min.toNat * 2 ^ 32 + r.hour.toNat * 2 ^ 24 +
      r.day.toNat * 2 ^ 16 + r.month.toNat * 2 ^ 8 + r.year.toNat := by
  simp only [ClkRec.pack, toNat_append_eq_add, BitVec.toNat_ofBool]; omega

theorem ClkRec.dateWe_pack (r : ClkRec) : r.pack.getLsbD 48 = r.dateWe := by
  simp only [ClkRec.pack, BitVec.getLsbD_append]; simp

theorem ClkRec.unpack_pack (r : ClkRec) : ClkRec.unpack r.pack = r := by
  have hpack := r.toNat_pack
  simp only [ClkRec.unpack, r.dateWe_pack]
  congr <;> exact extractLsb'_eq_of_toNat (by omega)

/-- R92: the place of each field. -/
theorem KDate.toNat_pack (k : KDate) :
    k.pack.toNat = k.weekday.toNat * 2 ^ 24 + k.day.toNat * 2 ^ 16 + k.month.toNat * 2 ^ 8 + k.year.toNat := by
  simp only [KDate.pack, toNat_append_eq_add]; omega

theorem KDate.unpack_pack (k : KDate) : KDate.unpack k.pack = k := by
  have hpack := k.toNat_pack
  simp only [KDate.unpack]
  congr <;> exact extractLsb'_eq_of_toNat (by omega)

/-- R95: the place of each field. -/
theorem DiagRec.toNat_pack (r : DiagRec) : r.pack.toNat = r.code.code.toNat * 32768 + r.dur.toNat :=
  toNat_append_eq_add r.code.code r.dur

theorem DiagCode.ofCode_code (c : DiagCode) : DiagCode.ofCode c.code = some c := by cases c <;> rfl

theorem DiagRec.unpack_pack (r : DiagRec) : DiagRec.unpack r.pack = some r := by
  have hpack := r.toNat_pack
  have hcode : r.pack.extractLsb' 15 3 = r.code.code := extractLsb'_eq_of_toNat (by omega)
  have hdur : r.pack.extractLsb' 0 15 = r.dur := extractLsb'_eq_of_toNat (by omega)
  rw [DiagRec.unpack, hcode, hdur, DiagCode.ofCode_code]; rfl

theorem DiagRec.unpack_code_seven {w : BitVec 18} (h : w.toNat / 32768 = 7) : DiagRec.unpack w = none := by
  have hcode : w.extractLsb' 15 3 = 7 := extractLsb'_eq_of_toNat (congrArg (· % 2 ^ 3) h)
  rw [DiagRec.unpack, hcode]; rfl

/-- Settles O8: a packed record as a number, with each field at its place. -/
theorem recordFieldsStandAtTheirBits : Obligations.RecordFieldsStandAtTheirBits := by
  refine ⟨fun r => ⟨r.unpack_pack, ?_, ?_⟩, fun r => ⟨r.unpack_pack, r.dateWe_pack, ?_⟩,
    fun k => ⟨k.unpack_pack, ?_, ?_⟩, fun r => ⟨r.unpack_pack, r.toNat_pack⟩, fun w => DiagRec.unpack_code_seven⟩
  · rw [r.toNat_pack]; omega
  · rw [r.toNat_pack]; omega
  · rw [r.toNat_pack]; omega
  · rw [k.toNat_pack]; omega
  · rw [k.toNat_pack]; omega

/-! ## The position table -/

/-- R87, R132 to R137, R200: the shared operation of a row's class, with the field, weight and successor of the row; the parity
check of domain P2 is the one that sets `ci` (R176). -/
def runRow (r : Descriptor) (b : Bool) (s : State) : State :=
  match r.cls with
  | .wait => acceptWait b s
  | .ignorable => acceptIgnorable (r.nxt.getD 0) b s
  | .fixed => acceptFixed (r.nxt.getD 0) b s
  | .weighted => acceptWeighted (r.field.getD .min) (r.weight.getD 0) (r.nxt.getD 0) b s
  | .discarded => acceptDiscarded (r.nxt.getD 0) b s
  | .parity => if r.domain = some .p2 then acceptHourParity (r.nxt.getD 0) b s else acceptParity (r.nxt.getD 0) b s
  | .spare => acceptUnexpected b s

@[simp] theorem State.setX_getX (f : Field) (s : State) : s.setX f (s.getX f) = s := by cases f <;> rfl

theorem acceptWeighted_eq (f : Field) (w : Val) (n : Code) (b : Bool) (s : State) :
    acceptWeighted f w n b s =
      { s.setX f (s.getX f + if b = true then w else 0) with par := s.par ^^ b, ds := n } := by
  cases b with
  | false => simp [acceptWeighted, addWeight, State.xorPar, State.setDs]
  | true => simp [acceptWeighted, addWeight, State.xorPar, State.setDs]

theorem acceptParity_eq (n : Code) (b : Bool) (s : State) :
    acceptParity n b s = if s.par = b then { s with par := false, ds := n } else failRecovery .checksum s := by
  obtain ⟨hp, h⟩ | ⟨hp, h⟩ := acceptParity_cases s n b
  · rw [h, if_pos hp]; rfl
  · rw [h, if_neg hp]

theorem acceptHourParity_eq (n : Code) (b : Bool) (s : State) :
    acceptHourParity n b s =
      if s.par = b then { s with par := false, ci := true, ds := n } else failRecovery .checksum s := by
  obtain ⟨hp, h⟩ | ⟨hp, h⟩ := acceptHourParity_cases s n b
  · rw [h, if_pos hp]; rfl
  · rw [h, if_neg hp]

/-- The shared operation of each class is its class rule. -/
theorem runRow_eq_classRule (r : Descriptor) (b : Bool) (s : State) : runRow r b s = classRule r b s := by
  obtain ⟨-, cls, field, weight, domain, nxt⟩ := r
  cases cls with
  | wait => rfl
  | ignorable => rfl
  | fixed => rfl
  | weighted => exact acceptWeighted_eq ..
  | discarded => rfl
  | parity =>
    by_cases hd : domain = some .p2
    · simp [runRow, classRule, hd, acceptHourParity_eq]
    · simp [runRow, classRule, hd, acceptParity_eq]
  | spare => rfl

/-- What the frame layout says of the row of a code: its frame bit, successor and parity domain (R86, R87). -/
abbrev RowOfLayout (c : Code) (r : Descriptor) : Prop :=
  r.frameBit = (if c.toNat = 0 ∨ c.toNat = 60 then none else some (c.toNat - 1)) ∧
  r.nxt = (if c.toNat = 0 ∨ c.toNat = 60 then none else some (successor c)) ∧
  r.domain = (if 22 ≤ c.toNat ∧ c.toNat ≤ 29 then some .p1 else if 30 ≤ c.toNat ∧ c.toNat ≤ 36 then some .p2
    else if 37 ≤ c.toNat ∧ c.toNat ≤ 59 then some .p3 else none)

/-- R86: the table row by row, against the meaning of its position and the frame layout. -/
theorem descriptor_row (c : Code) (hc : c.toNat ≤ 60) : ∃ r, descriptor c = some r ∧
    (∀ (b : Bool) (s : State), exec (decodePos c b) s = .next (runRow r b s)) ∧ RowOfLayout c r := by
  revert c
  refine Code.of_numerals fun n hn hc => ?_
  rw [BitVec.toNat_ofNat, Nat.mod_eq_of_lt hn] at hc
  interval_cases n <;> exact ⟨_, rfl, fun _ _ => rfl, rfl, rfl, rfl⟩

theorem descriptor_eq_none {c : Code} (hc : 61 ≤ c.toNat) : descriptor c = none := List.getElem?_eq_none hc

/-- Settles O23: row by row the meaning is the shared operation of the row's class, which is the class rule. -/
theorem positionTableAgreesWithMeanings : Obligations.PositionTableAgreesWithMeanings := by
  refine ⟨fun c hc => ?_, fun c => descriptor_eq_none⟩
  obtain ⟨r, hr, hrun, hlayout⟩ := descriptor_row c hc
  exact ⟨r, hr, fun b s => (hrun b s).trans (congrArg _ (runRow_eq_classRule r b s)), hlayout⟩

end Sys2Proof.Machine
end

section
/-! SUPPORT. The durations of the delivered events (30_encoding R83, R89, R95, R101): the range each of them lies in, and the
effect of an operation as independent of its duration. -/

namespace Sys2Proof.Machine

open Sys2Proof.Statements

/-! ## The durations of events -/

/-- R95, R267: every delivered event carries a duration that its code allows. -/
abbrev DursAllowed (s : State) : Prop := s.out.all OutRec.durationAllowed = true

theorem emit_keeps_durs {c : DiagCode} {d : Dur} (hd : OutRec.durationAllowed (ev c d) = true) {s : State}
    (hs : DursAllowed s) : DursAllowed (s.emit c d) := by
  simp [DursAllowed, List.all_append, hs, hd]

theorem failRecovery_keeps_durs (k : FailKind) {s : State} (hs : DursAllowed s) : DursAllowed (failRecovery k s) :=
  emit_keeps_durs (s := s.clearFrame) rfl hs

theorem acceptStartMarker_keeps_durs {s : State} (hs : DursAllowed s) : DursAllowed (acceptStartMarker s) :=
  emit_keeps_durs (s := s.setDs 1) rfl hs

theorem commitCheck_keeps_durs {s : State} (hs : DursAllowed s) : DursAllowed (commitCheck s) := by
  have hcommit : (commitOutputs s).all OutRec.durationAllowed = true := rfl
  rw [DursAllowed, commitCheck_out, List.all_append, Bool.and_eq_true]
  refine ⟨hs, ?_⟩
  split
  · exact hcommit
  · rfl

theorem AcceptCase.keeps_durs {c : Code} {s t : State} (h : AcceptCase c s t) (hs : DursAllowed s) : DursAllowed t := by
  cases h with
  | ignored _ ht => rw [ht]; exact hs
  | advanced _ _ _ out => rw [DursAllowed, out]; exact hs
  | failed _ k ht => rw [ht]; exact failRecovery_keeps_durs k hs

/-- R83: the range allowed for a classification event is that of the operation which emits it, so the classifier's symbol puts the
duration in it. -/
theorem EventCase.keeps_durs {s t : State} (h : EventCase s t) (hs : DursAllowed s) : DursAllowed t := by
  have emitted {c : DiagCode} (hd : OutRec.durationAllowed (ev c s.slot.dur) = true) :
      DursAllowed (s.takeSlot.emit c s.slot.dur) := emit_keeps_durs hd hs
  cases h with
  | zero _ hc h => exact h.keeps_durs (emitted ((highZero_wf_iff _).mpr hc))
  | one _ hc h => exact h.keeps_durs (emitted ((highOne_wf_iff _).mpr hc))
  | invalid _ hc h => rw [h]; exact failRecovery_keeps_durs _ (emitted ((highInvalid_wf_iff _).mpr hc))
  | start _ hc h =>
    rw [h]
    exact commitCheck_keeps_durs (acceptStartMarker_keeps_durs (emitted ((lowStart_wf_iff _).mpr hc)))
  | ordinary _ _ h => rw [h]; exact commitCheck_keeps_durs hs

theorem poll_keeps_durs {s t : State} (hs : DursAllowed s) (h : poll s = .next t) : DursAllowed t := by
  obtain ⟨-, rfl⟩ | ⟨-, he⟩ := poll_cases h
  · exact hs
  · exact he.keeps_durs hs

/-- Settles O47: a poll emits an event with 0 or with a duration in the classifier's window, and no other agent delivers. -/
theorem everyStepKeepsEventDurationsInTheirRanges : Obligations.EveryStepKeepsEventDurationsInTheirRanges :=
  fun _ _ hs h =>
    step_keeps DursAllowed (agenda := fun _ _ hs => hs) (poll_ := fun _ _ => poll_keeps_durs)
      (capture := fun _ _ _ hs => hs) (clk := fun _ _ hs => hs) (kdate := fun _ _ hs => hs) (reset := fun _ hs => hs) hs h

/-! ## Two durations of one operation -/

/-- R89, R101: of the two next states of an operation on `d` and on `d'`, the second is the first but for the duration in the event
that begins the records of the operation. -/
def SameButEventDur (c : DiagCode) (d d' : Dur) (s t t' : State) : Prop :=
  ∃ l : List OutRec, t.out = s.out ++ ev c d :: l ∧ t' = { t with out := s.out ++ ev c d' :: l }

/-- R131: a position rule reads no event back. -/
theorem acceptBit_emit_dur {b : Bool} {c : DiagCode} {d : Dur} (d' : Dur) {s t : State}
    (h : acceptBit b (s.emit c d) = .next t) :
    ∃ t', acceptBit b (s.emit c d') = .next t' ∧ SameButEventDur c d d' s t t' := by
  obtain ⟨u, hu, hcase⟩ := acceptAt_cases s.ds b (s.emit c d)
  cases hu.symm.trans h
  obtain ⟨l, hl, hrun⟩ := acceptAt_boundary s.ds h (s.out ++ [ev c d']) s.clk s.slot s.agenda
  refine ⟨_, hrun, l, by simpa using hl, ?_⟩
  obtain ⟨hslot, hclk, -, -, hagenda⟩ := hcase.onlyEvents.toSameOutside
  simp [hslot, hclk, hagenda]

theorem failRecovery_emit_dur (k : FailKind) (c : DiagCode) (d d' : Dur) (s : State) :
    SameButEventDur c d d' s (failRecovery k (s.emit c d)) (failRecovery k (s.emit c d')) :=
  ⟨[ev .onReadFailed 0], by simp, by simp [failRecovery_eq, State.clearFrame, State.emit, State.deliver]⟩

/-- R220: the records of the commit check do not depend on the records before them. -/
theorem commitCheck_with_out (s : State) (o : List OutRec) :
    commitCheck { s with out := o } =
      { commitCheck s with out := o ++ if s.ci = true then commitOutputs s else [] } := by
  by_cases hci : s.ci = true
  · rw [commitCheck_of_ci hci, commitCheck_of_ci (s := { s with out := o }) hci, commit_eq, commit_eq, if_pos hci]; rfl
  · rw [commitCheck_of_not_ci hci, commitCheck_of_not_ci (s := { s with out := o }) hci, if_neg hci, List.append_nil]

/-- R114: neither the start marker nor the commit reads the event back. -/
theorem lowStart_emit_dur (d d' : Dur) (s : State) :
    SameButEventDur .onStart d d' s (commitCheck (acceptStartMarker (s.emit .onStart d)))
      (commitCheck (acceptStartMarker (s.emit .onStart d'))) := by
  have hmarked : acceptStartMarker (s.emit .onStart d') =
    { acceptStartMarker (s.emit .onStart d) with out := s.out ++ [ev .onStart d'] ++ [ev .onReadStarted 0] } := rfl
  refine ⟨ev .onReadStarted 0 ::
    if s.ci = true then commitOutputs (acceptStartMarker (s.emit .onStart d)) else [], ?_, ?_⟩
  · rw [commitCheck_out]; simp [acceptStartMarker_eq]
  · rw [hmarked, commitCheck_with_out]; simp [acceptStartMarker_eq]

/-- R89, R101: what the two next states share, and where their delivered records differ. -/
abbrev ActAlike (d d' : Dur) (s t t' : State) : Prop :=
  SameButOutputs t' t ∧ rtcRecords t'.out = rtcRecords t.out ∧ clkRecords t'.out = clkRecords t.out ∧
  (diagRecords t'.out).map (·.code) = (diagRecords t.out).map (·.code) ∧
  (t'.out = t.out ∨ ∃ c ∈ [DiagCode.onZero, .onOne, .onInvalid, .onStart], ∃ l : List OutRec,
    t.out = s.out ++ ev c d :: l ∧ t'.out = s.out ++ ev c d' :: l)

/-- The duration of one event shows nowhere but in that event. -/
theorem SameButEventDur.actAlike {c : DiagCode} {d d' : Dur} {s t t' : State} (h : SameButEventDur c d d' s t t')
    (hc : c ∈ [DiagCode.onZero, .onOne, .onInvalid, .onStart]) : ActAlike d d' s t t' := by
  obtain ⟨l, hl, rfl⟩ := h
  obtain ⟨hrtc, hclk, hdiag⟩ := records_of_event_dur s.out l c d d'
  rw [← hl] at hrtc hclk hdiag
  exact ⟨rfl, hrtc, hclk, hdiag, .inr ⟨c, hc, l, hl, rfl⟩⟩

/-- Settles O52: an operation emits one event with its duration and reads it back nowhere, and `LOW.ORDINARY` does not use it. -/
theorem durationsOfOneWindowActAlike : Obligations.DurationsOfOneWindowActAlike := by
  intro d d' s t mk hmk h
  simp only [List.mem_cons, List.not_mem_nil, or_false] at hmk
  obtain rfl | rfl | rfl | rfl | rfl := hmk
  · obtain ⟨t', hrun, hsame⟩ := acceptBit_emit_dur d' h
    exact ⟨t', hrun, hsame.actAlike (by decide)⟩
  · obtain ⟨t', hrun, hsame⟩ := acceptBit_emit_dur d' h
    exact ⟨t', hrun, hsame.actAlike (by decide)⟩
  · cases h
    exact ⟨_, rfl, (failRecovery_emit_dur .pulseTiming .onInvalid d d' s).actAlike (by decide)⟩
  · cases h
    exact ⟨_, rfl, (lowStart_emit_dur d d' s).actAlike (by decide)⟩
  · exact ⟨t, h, rfl, rfl, rfl, rfl, .inl rfl⟩

end Sys2Proof.Machine
end

section
/-! SUPPORT. The high events (40_pulse_classifier R111 to R113, R117): where a bit is refused, what an accepted bit changes, and the
failure after each classification event. -/

namespace Sys2Proof.Machine

open Sys2Proof.Statements

/-! ## The failure -/

/-- R240: FailureRecovery after the events `o`, which touched no space but `DIAG`. -/
theorem failedFrom_failRecovery {s u : State} {o : List OutRec} (k : FailKind) (same : SameOutside s u)
    (out : u.out = s.out ++ o) : FailedFrom s o (failRecovery k u) :=
  ⟨rfl, u.getX_clearFrame, rfl, rfl, by rw [failRecovery_out, out], same.slot, same.clk, same.kdate, same.midnightRule,
    same.agenda⟩

theorem failedFrom_failRecovery_emit (k : FailKind) (c : DiagCode) (d : Dur) (s : State) :
    FailedFrom s [ev c d] (failRecovery k (s.emit c d)) :=
  failedFrom_failRecovery k (onlyEvents_emit s c d).toSameOutside rfl

/-- Settles O27: the operation is FailureRecovery after its classification event. -/
theorem highInvalidAlwaysFails : Obligations.HighInvalidAlwaysFails :=
  fun d s => ⟨_, exec_highInvalid d s, failedFrom_failRecovery_emit ..⟩

/-! ## The rows of the position table by class -/

/-- R86, R87: which codes a row of each class stands at, and which rows name a field and the hour-parity bit. -/
structure RowClass (c : Code) (r : Descriptor) : Prop where
  wait : c = 0 ↔ r.cls = .wait
  fixed : c = 21 ↔ r.cls = .fixed
  covered : Covered c ↔ r.cls = .weighted ∨ r.cls = .discarded
  parity : AtParity c ↔ r.cls = .parity
  hourParity : c = 36 ↔ r.cls = .parity ∧ r.domain = some .p2
  spare : 60 ≤ c.toNat ↔ r.cls = .spare
  field : (∃ f, r.field = some f) ↔ r.cls = .weighted
  nxt : r.cls ≠ .wait → r.cls ≠ .spare → r.nxt = some (successor c)

/-- R86: row by row. -/
theorem descriptor_rowClass (c : Code) {r : Descriptor} (hr : descriptor c = some r) : RowClass c r := by
  revert c
  refine Code.of_numerals fun n hn hr => ?_
  interval_cases n <;> cases hr <;>
    exact ⟨by decide, by decide, by decide, by decide, by decide, by decide, by simp, by decide⟩

/-! ## One bit -/

/-- R133, R136, R200: the position in `ds` refuses the bit. -/
def Refuses (b : Bool) (s : State) : Prop := (s.ds = 21 ∧ b = false) ∨ (AtParity s.ds ∧ s.par ≠ b) ∨ 60 ≤ s.ds.toNat

/-- R134: what the bit adds to accumulator `f` at position `c`. -/
def bitWeight (b : Bool) (c : Code) (f : Field) : Val := if b = true then BitVec.ofNat 8 (weightAt c f) else 0

/-- R132 to R138: the state after a bit that is not refused. -/
def takeBit (b : Bool) (s : State) : State :=
  { s with
    ds := successor s.ds
    xMin := s.xMin + bitWeight b s.ds .min, xHour := s.xHour + bitWeight b s.ds .hour
    xDay := s.xDay + bitWeight b s.ds .day, xMonth := s.xMonth + bitWeight b s.ds .month
    xYear := s.xYear + bitWeight b s.ds .year
    par := if Covered s.ds then s.par ^^ b else if AtParity s.ds then false else s.par
    ci := s.ci || decide (s.ds = 36) }

theorem getX_takeBit (b : Bool) (s : State) (f : Field) : (takeBit b s).getX f = s.getX f + bitWeight b s.ds f := by
  cases f <;> rfl

/-- R86: the weight of a row is its field's alone. -/
theorem bitWeight_of_descriptor {c : Code} {r : Descriptor} (hr : descriptor c = some r) (b : Bool) (f : Field) :
    bitWeight b c f = if r.field = some f then (if b = true then r.weight.getD 0 else 0) else 0 := by
  simp only [bitWeight, weightAt, hr]
  split_ifs <;> simp

/-- R134: only a weighted position adds to an accumulator. -/
theorem RowClass.bitWeight_eq_zero {c : Code} {r : Descriptor} (hrow : RowClass c r) (hr : descriptor c = some r)
    (hcls : r.cls ≠ .weighted) (b : Bool) (f : Field) : bitWeight b c f = 0 := by
  rw [bitWeight_of_descriptor hr, if_neg fun hf => hcls (hrow.field.mp ⟨f, hf⟩)]

/-- R132 to R137: the rule of a row takes the bit, or fails where the bit is refused. -/
theorem classRule_cases {r : Descriptor} {s : State} (hr : descriptor s.ds = some r) (b : Bool) :
    (¬ Refuses b s ∧ classRule r b s = takeBit b s) ∨ (Refuses b s ∧ ∃ k, classRule r b s = failRecovery k s) := by
  have hrow := descriptor_rowClass s.ds hr
  have hzero := hrow.bitWeight_eq_zero hr
  have hnxt := hrow.nxt
  simp only [Refuses, takeBit, hrow.fixed, hrow.covered, hrow.parity, hrow.hourParity, hrow.spare]
  cases hcls : r.cls with
  | wait =>
    have hstay : successor s.ds = s.ds := by simp [hrow.wait.mpr hcls, successor]
    simp [classRule, hcls, hzero, hstay]
  | ignorable => simp [classRule, hcls, hzero, hnxt]
  | fixed =>
    cases b with
    | false => exact .inr ⟨by simp, .structural, by simp [classRule, hcls]⟩
    | true => simp [classRule, hcls, hzero, hnxt]
  | weighted =>
    obtain ⟨f, hf⟩ := hrow.field.mpr hcls
    left
    simp only [bitWeight_of_descriptor hr, classRule, hcls, hf]
    cases f <;> simp [State.setX, State.getX, hcls, hnxt]
  | discarded => simp [classRule, hcls, hzero, hnxt]
  | parity =>
    by_cases hpar : s.par = b
    · simp [classRule, hcls, hzero, hnxt, hpar, Bool.or_comm]
    · exact .inr ⟨by simp [hpar], .checksum, by simp [classRule, hcls, hpar]⟩
  | spare => exact .inr ⟨by simp, .invalidState, by simp [classRule, hcls]⟩

/-- R131: a bit is taken, or it is refused and FailureRecovery runs. -/
theorem acceptBit_cases (b : Bool) (s : State) :
    (¬ Refuses b s ∧ acceptBit b s = .next (takeBit b s)) ∨
    (Refuses b s ∧ ∃ k, acceptBit b s = .next (failRecovery k s)) := by
  by_cases hc : s.ds.toNat ≤ 60
  · obtain ⟨r, hr, hrun, -⟩ := positionTableAgreesWithMeanings.1 s.ds hc
    rw [acceptBit_eq_exec, hrun]
    obtain ⟨hno, h⟩ | ⟨hyes, k, h⟩ := classRule_cases hr b
    · exact .inl ⟨hno, by rw [h]⟩
    · exact .inr ⟨hyes, k, by rw [h]⟩
  · obtain ⟨t, ht, hcase⟩ := acceptAt_cases s.ds b s
    refine .inr ⟨.inr (.inr (by omega)), ?_⟩
    cases hcase with
    | ignored h0 => omega
    | advanced _ hi => omega
    | failed _ k h => exact ⟨k, h ▸ ht⟩

theorem acceptBit_of_not_refuses {b : Bool} {s : State} (h : ¬ Refuses b s) : acceptBit b s = .next (takeBit b s) := by
  obtain ⟨-, hs⟩ | ⟨hyes, -⟩ := acceptBit_cases b s
  · exact hs
  · exact absurd hyes h

theorem not_refuses {b : Bool} {s : State} (hds : s.ds.toNat ≤ 59) (hstart : s.ds = 21 → b = true)
    (hpar : AtParity s.ds → s.par = b) : ¬ Refuses b s := by
  rintro (⟨h21, hb⟩ | ⟨hp, hne⟩ | h60)
  · simp [hstart h21] at hb
  · exact hne (hpar hp)
  · omega

/-! ## The bits after their classification events -/

theorem takeBit_par_false {s : State} (hpar : AtParity s.ds → s.par = false) : (takeBit false s).par = s.par := by
  simp only [takeBit, Bool.xor_false]
  split_ifs with _ hp
  · rfl
  · exact (hpar hp).symm
  · rfl

/-- A 0 that is not refused moves `ds`, and at `B35` sets `ci`. -/
theorem takeBit_false {s : State} (hpar : AtParity s.ds → s.par = false) :
    takeBit false s = { s with ds := successor s.ds, ci := s.ci || decide (s.ds = 36) } := by
  rw [← takeBit_par_false hpar]
  simp [takeBit, bitWeight]

/-- Settles O24: the bit is not refused, and a 0 adds nothing. -/
theorem highZeroEffect : Obligations.HighZeroEffect := by
  intro d s hds h21 hpar
  have hno : ¬ Refuses false (s.emit .onZero d) := not_refuses hds (fun h => absurd h h21) hpar
  exact (acceptBit_of_not_refuses hno).trans (congrArg _ (takeBit_false hpar))

/-- Settles O25: the bit is not refused, and each accumulator takes the weight of the table. -/
theorem highOneEffect : Obligations.HighOneEffect := by
  intro d s hds hpar
  have hno : ¬ Refuses true (s.emit .onOne d) := not_refuses hds (fun _ => rfl) hpar
  refine ⟨_, acceptBit_of_not_refuses hno, rfl, fun f => ?_, ?_, rfl, rfl, rfl, rfl, rfl, rfl, rfl⟩
  · simp [getX_takeBit, bitWeight]
  · rw [← Bool.xor_true]; rfl

/-- R111, R112: FailureRecovery runs after the classification event exactly where the bit is refused, for a bit taken delivers no
more events. -/
theorem refuses_iff_failedFrom (b : Bool) (e : DiagCode) (d : Dur) (s : State) :
    Refuses b s ↔ ∃ t, acceptBit b (s.emit e d) = .next t ∧ FailedFrom s [ev e d] t := by
  have hsame : Refuses b (s.emit e d) ↔ Refuses b s := .rfl
  rw [← hsame]
  obtain ⟨hno, h⟩ | ⟨hyes, k, h⟩ := acceptBit_cases b (s.emit e d)
  · refine iff_of_false hno ?_
    rintro ⟨t, ht, -, -, -, -, hout, -⟩
    cases h.symm.trans ht
    simp [takeBit] at hout
  · exact iff_of_true hyes ⟨_, h, failedFrom_failRecovery_emit k e d s⟩

/-- Settles O26: the positions and parities that refuse a 0, and those that refuse a 1. -/
theorem highBitsFailExactlyWhere : Obligations.HighBitsFailExactlyWhere := by
  intro d s
  constructor
  · exact .trans (by simp [Refuses]) (refuses_iff_failedFrom false .onZero d s)
  · exact .trans (by simp [Refuses]) (refuses_iff_failedFrom true .onOne d s)

/-- Settles O11: by the symbol of the duration, each operation as the rule it runs after its event. -/
theorem highEventRunsItsPositionRule : Obligations.HighEventRunsItsPositionRule := by
  intro d s
  refine ⟨fun hc => ?_, fun hc => ?_, fun hc => ?_⟩
  · rw [decodeEvent_highZero ((highZero_wf_iff d).mpr hc), exec_highZero]; rfl
  · rw [decodeEvent_highOne ((highOne_wf_iff d).mpr hc), exec_highOne]; rfl
  · rw [decodeEvent_highInvalid ((highInvalid_wf_iff d).mpr hc)]
    exact highInvalidAlwaysFails d s

end Sys2Proof.Machine
end

section
/-! SUPPORT. The low events (40_pulse_classifier R114 to R116) and the whole effect of `Commit` (42_commit_scheduler R220 to R229)
in the words of the statements. -/

namespace Sys2Proof.Machine

open Sys2Proof.Statements

/-! ## Commit -/

theorem dateDecoded_iff (s : State) : dateDecoded s = true ↔ DateDecoded s := by
  simp [dateDecoded, or_assoc, BitVec.toNat_eq]

/-- R225: either form of the rule tests a pair for 0:00. -/
theorem midnightFires_iff (s : State) : midnightFires s.midnightRule s.xMin s.xHour = true ↔ Suppressed s := by
  obtain ⟨hmin, hhour⟩ := correctTime_toNat s.xMin s.xHour
  cases hrule : s.midnightRule with
  | corrected => simp [midnightFires, Suppressed, hrule, BitVec.toNat_eq, hmin, hhour]
  | decoded => simp [midnightFires, Suppressed, hrule, BitVec.toNat_eq]

theorem dateCommit_iff (s : State) : dateCommit s = true ↔ DateDecoded s ∧ ¬ Suppressed s := by
  rw [dateCommit, Bool.and_eq_true, Bool.not_eq_true', ← Bool.not_eq_true, dateDecoded_iff, midnightFires_iff]

/-- R226 to R228: the date in the RTC record, the clock record and the clock state. -/
theorem commit_dateWritten (s : State) :
    DateWritten s (commit s) (commitRecord s) (mirrorRecord (dateCommit s) (commitRecord s)) := by
  rw [DateWritten, ← dateCommit_iff, commit_eq]
  constructor <;> intro h <;> simp [commitRecord, mirrorRecord, Clk.update, h, State.readKDate]

/-- R220: `Commit` after the events `o`, with the sequencer at `p`; it reads neither. -/
theorem committedFrom_commit (s : State) (o : List OutRec) (p : Code) :
    CommittedFrom s o p (commit { s with ds := p, out := s.out ++ o }) := by
  obtain ⟨hmin, hhour⟩ := correctTime_toNat s.xMin s.xHour
  refine ⟨commitRecord s, mirrorRecord (dateCommit s) (commitRecord s), ?_, rfl, hmin, hhour, rfl, ?_,
    commit_dateWritten s, ?_⟩
  · rw [commit_eq]; rfl
  · exact ⟨rfl, rfl, rfl, rfl, rfl, rfl⟩
  · rw [commit_eq]
    refine ⟨rfl, rfl, rfl, fun f => ?_, rfl, rfl, rfl, rfl, rfl, rfl, rfl⟩
    cases f <;> rfl

/-! ## The low events -/

/-- R114: the state after the start marker and its two events. -/
theorem acceptStartMarker_emit (d : Dur) (s : State) :
    acceptStartMarker (s.emit .onStart d) =
      { s with ds := 1, out := s.out ++ [ev .onStart d, ev .onReadStarted 0] } := by
  simp [acceptStartMarker_eq, State.emit, State.deliver]

/-- R116: the commit check after the events `o`, with the sequencer at `p`. -/
theorem commitCheck_effect (s : State) (o : List OutRec) (p : Code) :
    (s.ci = false →
      commitCheck { s with ds := p, out := s.out ++ o } = { s with ds := p, out := s.out ++ o }) ∧
    (s.ci = true → CommittedFrom s o p (commitCheck { s with ds := p, out := s.out ++ o })) := by
  constructor
  · exact fun hci => commitCheck_of_not_ci (by simp [hci])
  · intro hci
    rw [commitCheck_of_ci]
    · exact committedFrom_commit s o p
    · exact hci

/-- Settles O28: the marker and its events, then the commit check. -/
theorem lowStartRestartsAndCommits : Obligations.LowStartRestartsAndCommits := by
  intro d s
  obtain ⟨hno, hyes⟩ := commitCheck_effect s [ev .onStart d, ev .onReadStarted 0] 1
  rw [exec_lowStart, acceptStartMarker_emit]
  exact ⟨fun hci => congrArg _ (hno hci), fun hci => ⟨_, rfl, hyes hci⟩⟩

/-- Settles O29: the commit check alone. -/
theorem lowOrdinaryCommitsOrDoesNothing : Obligations.LowOrdinaryCommitsOrDoesNothing := by
  intro d s
  obtain ⟨hno, hyes⟩ := commitCheck_effect s [] s.ds
  rw [List.append_nil] at hno hyes
  exact ⟨fun hci => congrArg _ (hno hci), fun hci => ⟨_, rfl, hyes hci⟩⟩

/-- R116: a low event is the commit check, as `LOW.ORDINARY` runs it, of the state that the classification leaves. -/
theorem exec_low_eq_exec_lowOrdinary {d : Dur} {s s1 : State}
    (hstart : classifyLow d = .startMarker →
      s1 = { s with ds := 1, out := s.out ++ [ev .onStart d, ev .onReadStarted 0] })
    (hordinary : classifyLow d = .ordinary → s1 = s) : exec (decodeEvent .low d) s = exec (.lowOrdinary d) s1 := by
  cases hc : classifyLow d with
  | startMarker =>
    rw [decodeEvent_lowStart ((lowStart_wf_iff d).mpr hc), exec_lowStart, acceptStartMarker_emit, hstart hc,
      exec_lowOrdinary]
  | ordinary => rw [decodeEvent_lowOrdinary ((lowOrdinary_wf_iff d).mpr hc), hordinary hc]

/-- Settles O12: after the classification a low event does what `LOW.ORDINARY` does; neither way of marking touches `ci`. -/
theorem lowEventMarksThenChecksCommit : Obligations.LowEventMarksThenChecksCommit := by
  intro d s s1 hstart hordinary
  have hci : s1.ci = s.ci := by
    cases hc : classifyLow d with
    | startMarker => rw [hstart hc]
    | ordinary => rw [hordinary hc]
  rw [exec_low_eq_exec_lowOrdinary hstart hordinary, ← hci]
  exact lowOrdinaryCommitsOrDoesNothing d s1

end Sys2Proof.Machine
end

section
/-! SUPPORT. The classification functions (40_pulse_classifier R118, R119), the poll of a decoded event (R110), and the
instruction put where the next step fetches it (log 3, 4). -/

namespace Sys2Proof.Machine

open Sys2Proof.Statements

/-! ## The classification functions -/

/-- Settles O5: the two windows, and the six listed durations as durations outside them. -/
theorem classifyHighWindows : Obligations.ClassifyHighWindows := by
  refine ⟨fun d => ⟨classifyHigh_eq_zero_iff d, classifyHigh_eq_one_iff d, classifyHigh_eq_invalid_iff d⟩, fun d hd => ?_⟩
  rw [classifyHigh_eq_invalid_iff]
  rcases hd with rfl | rfl | rfl | rfl | rfl | rfl <;> decide

/-- Settles O6: the one window. -/
theorem classifyLowWindow : Obligations.ClassifyLowWindow :=
  fun d => ⟨classifyLow_eq_startMarker_iff d, classifyLow_eq_ordinary_iff d⟩

/-! ## The poll and the step -/

/-- R110: the poll of a full mailbox, by the instruction that the decoder reads from the word of the slot. -/
theorem poll_of_decode {s : State} {i : Instr} (hf : s.slot.full = true)
    (hi : decode (evBytes (evWord s.slot.level s.slot.dur)) = .ok i) : poll s = exec i s.takeSlot := by
  obtain rfl : decodeEvent s.slot.level s.slot.dur = i := Except.ok.inj ((decode_evBytes_evWord rfl).symm.trans hi)
  exact poll_full hf

/-- Settles O9: by what the mailbox holds. -/
theorem pollTakesOneEvent : Obligations.PollTakesOneEvent :=
  fun _ => ⟨poll_empty, fun hf _ hi => poll_of_decode hf hi⟩

/-- The turn of the block: the poll, with the turn taken off the agenda. -/
theorem step_of_block_turn {s : State} {rest : List AgentAction}
    (h : (s.agenda = [] ∧ rest = []) ∨ s.agenda = .poll :: rest) : step s = poll { s with agenda := rest } := by
  obtain ⟨ha, rfl⟩ | ha := h
  · rw [step_poll_nil ha, ← ha]
  · exact step_cons ha

/-- Settles O10: the turn is a poll, and the poll goes by what the mailbox holds. -/
theorem stepRunsTheDecodedInstruction : Obligations.StepRunsTheDecodedInstruction := by
  intro s rest hturn
  rw [step_of_block_turn hturn]
  exact ⟨fun hf => poll_empty hf, fun hf i hi => poll_of_decode (s := { s with agenda := rest }) hf hi⟩

/-- Settles O14: every agent's step answers, and so does every operation a poll selects. -/
theorem everyStepAnswersANextState : Obligations.EveryStepAnswersANextState := step_next

/-! ## The presented instruction -/

theorem decodeTableWord_event (w : Nat) : decodeTableWord 16 w = some (decodeEv (BitVec.ofNat 16 w)) := by
  simp only [decodeTableWord, tableBytes, if_true, decode_evBytes]

/-- Log 3: the low seven bits of a position word are the position byte of its code and its bit. -/
theorem ofNat_mod_128_eq_posByte (w : Nat) :
    BitVec.ofNat 8 (w % 128) = posByte (BitVec.ofNat 6 (w % 64)) (w.testBit 6) := by
  have hbit : (w.testBit 6).toNat = w / 64 % 2 := by rw [Nat.toNat_testBit]
  apply BitVec.eq_of_toNat_eq
  simp only [posByte, toNat_append_eq_add, BitVec.toNat_ofNat, BitVec.toNat_ofBool, hbit]
  omega

theorem decodeTableWord_position {nbits : Nat} (h : nbits ≠ 16) (w : Nat) :
    decodeTableWord nbits w = some (decodePos (BitVec.ofNat 6 (w % 64)) (w.testBit 6)) := by
  simp only [decodeTableWord, tableBytes, if_neg h, ofNat_mod_128_eq_posByte, decode_posByte]

/-- R101: the event of a bit runs the position rule in `ds` with that bit. -/
theorem exec_decodeEvent_bitDur (b : Bool) (s : State) :
    exec (decodeEvent .high (bitDur b)) s =
      exec (decodePos s.ds b)
        { s with out := s.out ++ [if b = true then ev .onOne 200 else ev .onZero 100] } := by
  cases b with
  | false => exact exec_highZero 100 s
  | true => exact exec_highOne 200 s

/-- The word presented is in the mailbox and the poll that takes it is next. -/
theorem step_presentTableWord_position {nbits : Nat} (h : nbits ≠ 16) (w : Nat) (s : State) :
    step (s.withFetchWord nbits w) = exec (decodeEvent .high (bitDur (w.testBit 6)))
      { s with ds := BitVec.ofNat 6 (w % 64), slot := ⟨false, .high, bitDur (w.testBit 6)⟩ } := by
  rw [State.withFetchWord, presentTableWord, if_neg h]; rfl

/-- Settles O13: what the decoder reads from the word, and what the poll of the mailbox it is put in runs. -/
theorem fetchWordIsRunByTheNextStep : Obligations.FetchWordIsRunByTheNextStep := by
  intro s nbits w i hi
  constructor
  · rintro rfl
    obtain rfl := Option.some.inj ((decodeTableWord_event w).symm.trans hi)
    rfl
  · intro hn
    obtain rfl := Option.some.inj ((decodeTableWord_position hn w).symm.trans hi)
    rw [step_presentTableWord_position hn, exec_decodeEvent_bitDur]
    rfl

end Sys2Proof.Machine
end

section
/-! SUPPORT. The position rules one by one (41_frame_state_machine R130 to R140, R200, R201): the rows of the opcode table by
class, each as the shared operation of its class. -/

namespace Sys2Proof.Machine

open Sys2Proof.Statements

/-! ## The rows that advance -/

/-- Settles O16: row by row the rule is the advance to the successor. -/
theorem ignorablePositionsAdvance : Obligations.IgnorablePositionsAdvance := by
  intro p hp b s
  fin_cases hp <;> rfl

/-- Settles O19: row by row the rule is the XOR and the advance. -/
theorem dayOfWeekEntersParityOnly : Obligations.DayOfWeekEntersParityOnly := by
  intro p hp b s
  fin_cases hp <;> rfl

/-- R134: row by row, the rule is `acceptWeighted` of the field, weight and successor of the row. -/
theorem exec_weightedRow {p : (Bool → Instr) × Field × Val × Code} (hp : p ∈ weightedRows) (b : Bool) (s : State) :
    exec (p.1 b) s = .next (acceptWeighted p.2.1 p.2.2.1 p.2.2.2 b s) := by
  fin_cases hp <;> rfl

/-- Settles O18: what `acceptWeighted` leaves in the accumulators, and what it leaves besides. -/
theorem weightedPositionsAccumulate : Obligations.WeightedPositionsAccumulate := by
  intro p hp b s
  obtain ⟨ds, par, ci, slot, clk, kdate, out, rule, agenda⟩ := acceptWeighted_others s p.2.1 p.2.2.1 p.2.2.2 b
  refine ⟨_, exec_weightedRow hp b s, ?_, fun g hg => ?_, par, ds, ci, out, slot, clk, kdate, rule, agenda⟩
  · rw [getX_acceptWeighted]
    cases b with
    | false => simp [Nat.mod_eq_of_lt (s.getX p.2.1).isLt]
    | true => simp
  · rw [getX_acceptWeighted, if_neg fun h => hg h.2]

/-! ## The rows that can fail, and `WAIT` -/

/-- R240: FailureRecovery as the whole of a position rule. -/
theorem failedFrom_nil (k : FailKind) (s : State) : FailedFrom s [] (failRecovery k s) :=
  failedFrom_failRecovery k (.refl s) (List.append_nil _).symm

/-- Settles O17: the two branches of the fixed bit. -/
theorem startBitMustBeOne : Obligations.StartBitMustBeOne :=
  fun s => ⟨rfl, _, rfl, failedFrom_nil .structural s⟩

/-- R136: a parity check whose bit differs from `par` answers FailureRecovery. -/
theorem failedFrom_parity {b : Bool} {s : State} (hb : s.par ≠ b) (n : Code) :
    FailedFrom s [] (acceptParity n b s) ∧ FailedFrom s [] (acceptHourParity n b s) := by
  rw [acceptParity_eq, acceptHourParity_eq, if_neg hb, if_neg hb]
  exact ⟨failedFrom_nil _ s, failedFrom_nil _ s⟩

/-- Settles O20: a match is the pass of the shared check, a mismatch its failure. -/
theorem parityChecksPassOrFail : Obligations.ParityChecksPassOrFail := by
  intro b s
  constructor
  · intro hb
    have hpass (n : Code) : acceptParity n b s = { s with par := false, ds := n } := by
      rw [acceptParity_eq, if_pos hb]
    have hhour : acceptHourParity 37 b s = { s with par := false, ci := true, ds := 37 } := by
      rw [acceptHourParity_eq, if_pos hb]
    exact ⟨congrArg _ (hpass 30), congrArg _ hhour, congrArg _ (hpass 0)⟩
  · intro hb
    exact ⟨⟨_, rfl, (failedFrom_parity hb _).1⟩, ⟨_, rfl, (failedFrom_parity hb _).2⟩, ⟨_, rfl, (failedFrom_parity hb _).1⟩⟩

/-- R137: a bit taken at `WAIT` changes nothing. -/
theorem acceptBit_at_wait (b : Bool) {s : State} (hds : s.ds = 0) : acceptBit b s = .next s := by
  rw [acceptBit, hds]; rfl

/-- Settles O21: at `WAIT` a bit changes nothing, after its event; an Invalid pulse fails wherever it is taken. -/
theorem waitIgnoresBitsButNotInvalidPulses : Obligations.WaitIgnoresBitsButNotInvalidPulses :=
  ⟨fun _ _ => rfl, fun d s hds =>
    ⟨acceptBit_at_wait false (s := s.emit .onZero d) hds, acceptBit_at_wait true (s := s.emit .onOne d) hds,
      highInvalidAlwaysFails d s⟩⟩

/-- Settles O22: each of the four rules is the defensive fallback. -/
theorem spareAndUndefinedCodesFail : Obligations.SpareAndUndefinedCodesFail := by
  intro b s
  have hfail := failedFrom_nil .invalidState s
  exact ⟨⟨_, rfl, hfail⟩, ⟨_, rfl, hfail⟩, ⟨_, rfl, hfail⟩, ⟨_, rfl, hfail⟩⟩

/-- Settles O34: the fields the start marker leaves. -/
theorem startMarkerWritesOnlyDs : Obligations.StartMarkerWritesOnlyDs :=
  fun s => by rw [acceptStartMarker_eq]; exact ⟨rfl, rfl, rfl⟩

/-! ## A block that waits -/

/-- R137: the block waits, with nothing accumulated. -/
structure Waiting (s : State) : Prop where
  ds : s.ds = 0
  acc : ∀ f, s.getX f = 0
  par : s.par = false
  ci : s.ci = false

theorem Waiting.emit {s : State} (hs : Waiting s) (c : DiagCode) (d : Dur) : Waiting (s.emit c d) :=
  ⟨hs.ds, fun f => (s.getX_emit f c d).trans (hs.acc f), hs.par, hs.ci⟩

theorem waiting_failRecovery (k : FailKind) (s : State) : Waiting (failRecovery k s) :=
  ⟨rfl, s.getX_clearFrame, rfl, rfl⟩

/-- R137: only a start marker ends the waiting. -/
theorem Waiting.exec_decodeEv {s : State} (hs : Waiting s) {w : EvWord} (hw : ∀ d, decodeEv w ≠ .lowStart d) :
    ∃ t, exec (decodeEv w) s = .next t ∧ Waiting t := by
  rw [decodeEv] at hw ⊢
  cases hl : w.level with
  | low =>
    cases hc : classifyLow w.dur with
    | startMarker => exact absurd (by simp [decodeEvent, hl, hc]) (hw w.dur)
    | ordinary =>
      refine ⟨s, ?_, hs⟩
      rw [decodeEvent_lowOrdinary ((lowOrdinary_wf_iff _).mpr hc), exec_lowOrdinary, commitCheck_of_not_ci (by simp [hs.ci])]
  | high =>
    cases hc : classifyHigh w.dur with
    | zero =>
      rw [decodeEvent_highZero ((highZero_wf_iff _).mpr hc)]
      exact ⟨_, acceptBit_at_wait false (hs.emit .onZero w.dur).ds, hs.emit ..⟩
    | one =>
      rw [decodeEvent_highOne ((highOne_wf_iff _).mpr hc)]
      exact ⟨_, acceptBit_at_wait true (hs.emit .onOne w.dur).ds, hs.emit ..⟩
    | invalid =>
      rw [decodeEvent_highInvalid ((highInvalid_wf_iff _).mpr hc)]
      exact ⟨_, exec_highInvalid .., waiting_failRecovery ..⟩

theorem Waiting.not_commits {s : State} (hs : Waiting s) (i : Instr) : ¬ Commits i s := by
  simp [Commits, hs.ci]

/-- R137: without a start marker a waiting block waits on, and delivers events alone. -/
theorem Waiting.waits_on {ws : List EvWord} {s : State} (hs : Waiting s) (hws : ∀ w ∈ ws, ∀ d, decodeEv w ≠ .lowStart d) :
    ∃ t, runWords ws s = .next t ∧ Waiting t ∧ OnlyEvents s t := by
  induction ws generalizing s with
  | nil => exact ⟨s, rfl, hs, .refl s⟩
  | cons w ws ih =>
    obtain ⟨u, hu, hwait⟩ := hs.exec_decodeEv (hws w (List.mem_cons_self ..))
    obtain ⟨t, ht, hwait', hout⟩ := ih hwait fun v hv => hws v (List.mem_cons_of_mem w hv)
    refine ⟨t, ?_, hwait', (exec_onlyEvents hu (hs.not_commits _)).trans hout⟩
    simpa only [runWords, hu] using ht

/-- Settles O53: the block waits on, and events write neither the clock state nor the other two sinks. -/
theorem noStartMarkerStaysAtWait : Obligations.NoStartMarkerStaysAtWait := by
  intro ws s hws hds hacc hpar hci
  obtain ⟨t, ht, hwait, hout⟩ := Waiting.waits_on ⟨hds, hacc, hpar, hci⟩ hws
  exact ⟨t, ht, hwait.ds, hwait.acc, hwait.par, hwait.ci, hout.clk, hout.records.1, hout.records.2⟩

end Sys2Proof.Machine
end

section
/-! SUPPORT. The parity domains of the frame (30_encoding R88, R102; 41_frame_state_machine R134 to R136, R202, R203): what a
run of covered bits leaves, its parity check, and the frame of the helper accepted bit by bit. -/

namespace Sys2Proof.Machine

open Sys2Proof.Statements

/-! ## The value of a run of bits -/

/-- R88, R134: what the bits accepted from position `c` on add to accumulator `f`. -/
def weighed (f : Field) : Code → List Bool → Nat
  | _, [] => 0
  | c, b :: bs => (if b = true then weightAt c f else 0) + weighed f (c + 1) bs

theorem Code.add_length_cons (c : Code) (b : Bool) (bs : List Bool) :
    c + BitVec.ofNat 6 (b :: bs).length = c + 1 + BitVec.ofNat 6 bs.length := by
  rw [List.length_cons, Nat.add_comm, BitVec.ofNat_add, ← BitVec.add_assoc]; rfl

theorem weighed_append (f : Field) (c : Code) (a b : List Bool) :
    weighed f c (a ++ b) = weighed f c a + weighed f (c + BitVec.ofNat 6 a.length) b := by
  induction a generalizing c with
  | nil => simp [weighed]
  | cons x a ih => rw [List.cons_append, weighed, weighed, ih, Code.add_length_cons, Nat.add_assoc]

/-- R88: over positions with the weights `ws` the bits add the sum of the weights of those that are 1. -/
theorem weighed_eq_sum {f : Field} {bits : List Bool} {c : Code} {ws : List Nat}
    (h : ∀ i < bits.length, ws[i]? = some (weightAt (c + BitVec.ofNat 6 i) f)) :
    weighed f c bits = ((bits.zip ws).map fun p => if p.1 then p.2 else 0).sum := by
  induction bits generalizing c ws with
  | nil => rfl
  | cons b bs ih =>
    cases ws with
    | nil => exact absurd (h 0 (Nat.succ_pos _)) (by simp)
    | cons w ws =>
      have hw : w = weightAt c f := by simpa using h 0 (Nat.succ_pos _)
      have hws : ∀ i < bs.length, ws[i]? = some (weightAt (c + 1 + BitVec.ofNat 6 i) f) := fun i hi => by
        have hi' := h (i + 1) (Nat.succ_lt_succ hi)
        rwa [List.getElem?_cons_succ, Nat.add_comm, BitVec.ofNat_add, ← BitVec.add_assoc] at hi'
      rw [weighed, ih hws, List.zip_cons_cons, List.map_cons, List.sum_cons, hw]

/-- R86, R88: the `n` positions from `c` on are the first `n` bits of field `f`. -/
abbrev CarriesField (f : Field) (c : Code) (n : Nat) : Prop :=
  ∀ i < n, weightList[i]? = some (weightAt (c + BitVec.ofNat 6 i) f)

/-- R86: the `n` positions from `c` on add nothing to field `f`. -/
abbrev CarriesNone (f : Field) (c : Code) (n : Nat) : Prop := ∀ i < n, weightAt (c + BitVec.ofNat 6 i) f = 0

theorem weighed_of_carriesField {f : Field} {c : Code} {bits : List Bool} {n : Nat} (hlen : bits.length = n)
    (h : CarriesField f c n) : weighed f c bits = fieldValue bits :=
  weighed_eq_sum (hlen ▸ h)

theorem weighed_of_carriesNone {f : Field} {c : Code} {bits : List Bool} {n : Nat} (hlen : bits.length = n)
    (h : CarriesNone f c n) : weighed f c bits = 0 := by
  subst hlen
  induction bits generalizing c with
  | nil => rfl
  | cons b bs ih =>
    have hhead : weightAt c f = 0 := by simpa using h 0 (Nat.succ_pos _)
    have htail : CarriesNone f (c + 1) bs.length := fun i hi => by
      have hi' := h (i + 1) (Nat.succ_lt_succ hi)
      rwa [Nat.add_comm, BitVec.ofNat_add, ← BitVec.add_assoc] at hi'
    rw [weighed, hhead, ite_self, ih htail]

/-! ## A run of covered bits -/

/-- R203: the `n` positions from `c` on lie in one parity domain, before its parity bit. -/
def InDomain (c : Code) (n : Nat) : Prop :=
  (22 ≤ c.toNat ∧ c.toNat + n ≤ 29) ∨ (30 ≤ c.toNat ∧ c.toNat + n ≤ 36) ∨ (37 ≤ c.toNat ∧ c.toNat + n ≤ 59)

theorem InDomain.head {c : Code} {n : Nat} (h : InDomain c (n + 1)) : Covered c ∧ successor c = c + 1 := by
  simp only [InDomain] at h
  refine ⟨by simp only [Covered]; omega, if_neg ?_⟩
  rintro (rfl | rfl)
  · simp at h
  · simp at h; omega

theorem InDomain.tail {c : Code} {n : Nat} (h : InDomain c (n + 1)) : InDomain (c + 1) n := by
  simp only [InDomain] at h ⊢
  have : (c + 1).toNat = c.toNat + 1 := by bv_omega
  omega

/-- R134, R135: the state after a run of covered bits. -/
def gather (bits : List Bool) (s : State) : State :=
  { s with
    ds := s.ds + BitVec.ofNat 6 bits.length
    xMin := s.xMin + BitVec.ofNat 8 (weighed .min s.ds bits), xHour := s.xHour + BitVec.ofNat 8 (weighed .hour s.ds bits)
    xDay := s.xDay + BitVec.ofNat 8 (weighed .day s.ds bits)
    xMonth := s.xMonth + BitVec.ofNat 8 (weighed .month s.ds bits)
    xYear := s.xYear + BitVec.ofNat 8 (weighed .year s.ds bits)
    par := s.par ^^ xorAll bits }

theorem gather_nil (s : State) : gather [] s = s := by simp [gather, weighed, xorAll]

theorem gather_cons (b : Bool) (bs : List Bool) (s : State) : gather bs (gather [b] s) = gather (b :: bs) s := by
  have hpar : xorAll (b :: bs) = (xorAll [b] ^^ xorAll bs) := xorAll_append [b] bs
  simp only [gather, hpar, Code.add_length_cons, weighed, List.length_nil, BitVec.ofNat_add, BitVec.add_assoc,
    Bool.xor_assoc]
  simp

theorem takeBit_covered {b : Bool} {s : State} (hcov : Covered s.ds) (hsucc : successor s.ds = s.ds + 1) :
    takeBit b s = gather [b] s := by
  have hci : decide (s.ds = 36) = false := decide_eq_false fun h => by simp [Covered, h] at hcov
  have hw (f : Field) : bitWeight b s.ds f = BitVec.ofNat 8 (weighed f s.ds [b]) := by
    cases b <;> simp [bitWeight, weighed]
  simp only [takeBit, if_pos hcov, hsucc, hci, Bool.or_false, hw]
  simp [gather, xorAll]

theorem not_refuses_of_covered {b : Bool} {s : State} (hcov : Covered s.ds) : ¬ Refuses b s := by
  simp only [Covered] at hcov
  refine not_refuses (by omega) (fun h => ?_) (fun h => ?_)
  · simp [h] at hcov
  · rcases h with h | h | h <;> simp [h] at hcov

/-- R134, R135: the positions of a domain take every bit. -/
theorem acceptBits_inDomain {bits : List Bool} {s : State} (h : InDomain s.ds bits.length) :
    acceptBits bits s = .next (gather bits s) := by
  induction bits generalizing s with
  | nil => rw [gather_nil]; rfl
  | cons b bs ih =>
    obtain ⟨hcov, hsucc⟩ := h.head
    have hb : acceptBit b s = .next (gather [b] s) := by
      rw [acceptBit_of_not_refuses (not_refuses_of_covered hcov), takeBit_covered hcov hsucc]
    simp only [acceptBits, hb]
    rw [ih (s := gather [b] s) h.tail, gather_cons]

/-! ## The parity check of a domain -/

/-- R136, R176: the state after a parity bit that matches. -/
def passParity (s : State) : State :=
  { s with ds := successor s.ds, par := false, ci := s.ci || decide (s.ds = 36) }

theorem passParity_ci (s : State) : (passParity s).ci = if s.ds = 36 then true else s.ci := by
  by_cases h : s.ds = 36
  · simp [passParity, h]
  · rw [if_neg h, passParity, decide_eq_false h, Bool.or_false]

theorem takeBit_atParity {b : Bool} {s : State} (h : AtParity s.ds) : takeBit b s = passParity s := by
  have hno : ¬ Covered s.ds := by rcases h with h | h | h <;> simp [Covered, h]
  have hw (f : Field) : weightAt s.ds f = 0 := by rcases h with h | h | h <;> rw [h] <;> cases f <;> rfl
  simp [takeBit, passParity, bitWeight, hno, h, hw]

/-- R136: the parity bit is compared with `par`. -/
theorem acceptBit_atParity {s : State} (h : AtParity s.ds) (p : Bool) :
    (p = s.par → acceptBit p s = .next (passParity s)) ∧
    (p ≠ s.par → ∃ k, acceptBit p s = .next (failRecovery k s)) := by
  constructor
  · rintro rfl
    have h21 : s.ds ≠ 21 := by rcases h with h | h | h <;> rw [h] <;> decide
    have h59 : s.ds.toNat ≤ 59 := by rcases h with h | h | h <;> rw [h] <;> decide
    rw [acceptBit_of_not_refuses (not_refuses h59 (fun h => absurd h h21) fun _ => rfl), takeBit_atParity h]
  · intro hp
    obtain ⟨hno, -⟩ | ⟨-, hfail⟩ := acceptBit_cases p s
    · exact absurd (.inr (.inl ⟨h, hp.symm⟩)) hno
    · exact hfail

/-- R203: the bits of a domain and its parity bit, which decides. -/
theorem acceptBits_domain {s : State} {bits : List Bool} (hin : InDomain s.ds bits.length)
    (hend : AtParity (s.ds + BitVec.ofNat 6 bits.length)) (p : Bool) :
    (p = (s.par ^^ xorAll bits) → acceptBits (bits ++ [p]) s = .next (passParity (gather bits s))) ∧
    (p ≠ (s.par ^^ xorAll bits) → ∃ t, acceptBits (bits ++ [p]) s = .next t ∧ FailedFrom s [] t) := by
  obtain ⟨hpass, hfail⟩ := acceptBit_atParity (s := gather bits s) hend p
  rw [acceptBits_append [p] (acceptBits_inDomain hin)]
  constructor
  · intro hp
    simp only [acceptBits, hpass hp]
  · intro hp
    obtain ⟨k, hk⟩ := hfail hp
    refine ⟨failRecovery k (gather bits s), by simp only [acceptBits, hk], ?_⟩
    exact failedFrom_failRecovery k ⟨rfl, rfl, rfl, rfl, rfl⟩ (List.append_nil _).symm

/-- R9, R134: the sum of the weights is added modulo 256. -/
theorem toNat_getX_passParity_gather (f : Field) (bits : List Bool) (s : State) :
    ((passParity (gather bits s)).getX f).toNat = ((s.getX f).toNat + weighed f s.ds bits) % 256 := by
  have hget : (passParity (gather bits s)).getX f = s.getX f + BitVec.ofNat 8 (weighed f s.ds bits) := by
    cases f <;> rfl
  simp [hget]

theorem getX_passParity_gather_of_carriesNone {f : Field} {bits : List Bool} {s : State} (h : CarriesNone f s.ds bits.length) :
    (passParity (gather bits s)).getX f = s.getX f := by
  have hget := toNat_getX_passParity_gather f bits s
  rw [weighed_of_carriesNone rfl h, Nat.add_zero, Nat.mod_eq_of_lt (s.getX f).isLt] at hget
  exact BitVec.eq_of_toNat_eq hget

/-- R203: a domain whose `n` covered positions from `c` on all hold bits of the one field `f`. -/
theorem oneField_isDecidedByItsParity {c : Code} {n : Nat} {f : Field} (hin : InDomain c n)
    (hend : AtParity (c + BitVec.ofNat 6 n)) (hf : CarriesField f c n) (hother : ∀ g, g ≠ f → CarriesNone g c n)
    (s : State) (bits : List Bool) (p : Bool) (hds : s.ds = c) (hlen : bits.length = n) :
    (∃ u, acceptBits bits s = .next u ∧ u.ds = c + BitVec.ofNat 6 n ∧ u.out = s.out) ∧
    (p = (s.par ^^ xorAll bits) → ∃ t, acceptBits (bits ++ [p]) s = .next t ∧
      t.ds = successor (c + BitVec.ofNat 6 n) ∧ t.par = false ∧
      (t.getX f).toNat = ((s.getX f).toNat + fieldValue bits) % 256 ∧ (∀ g, g ≠ f → t.getX g = s.getX g) ∧
      t.ci = (if c + BitVec.ofNat 6 n = 36 then true else s.ci) ∧ t.out = s.out ∧ SameBoundary s t) ∧
    (p ≠ (s.par ^^ xorAll bits) → ∃ t, acceptBits (bits ++ [p]) s = .next t ∧ FailedFrom s [] t) := by
  subst hds hlen
  obtain ⟨hpass, hfail⟩ := acceptBits_domain hin hend p
  refine ⟨⟨_, acceptBits_inDomain hin, rfl, rfl⟩, fun hp => ?_, hfail⟩
  refine ⟨_, hpass hp, rfl, rfl, ?_, fun g hg => getX_passParity_gather_of_carriesNone (hother g hg), ?_, rfl, rfl, rfl, rfl,
    rfl, rfl⟩
  · rw [toNat_getX_passParity_gather, weighed_of_carriesField rfl hf]
  · exact passParity_ci _

/-- Settles O54: the seven positions hold the minute, and the parity bit decides. -/
theorem minuteGroupIsDecidedByItsParity : Obligations.MinuteGroupIsDecidedByItsParity :=
  oneField_isDecidedByItsParity (c := codeB 21) (n := 7) (f := .min) (.inl (by decide)) (by decide) (by decide)
    (by intro g; cases g <;> decide)

/-- Settles O55: the six positions hold the hour, and the parity bit decides and sets `ci`. -/
theorem hourGroupIsDecidedByItsParity : Obligations.HourGroupIsDecidedByItsParity :=
  oneField_isDecidedByItsParity (c := codeB 29) (n := 6) (f := .hour) (.inr (.inl (by decide))) (by decide) (by decide)
    (by intro g; cases g <;> decide)

/-! ## The date domain -/

/-- R86: the 22 covered positions of the date: six of the day, three of no field, five of the month, eight of the year. -/
theorem weighed_date {day dow month year : List Bool} (hd : day.length = 6) (hw : dow.length = 3)
    (hm : month.length = 5) (hy : year.length = 8) :
    weighed .day (codeB 36) (day ++ dow ++ month ++ year) = fieldValue day ∧
    weighed .month (codeB 36) (day ++ dow ++ month ++ year) = fieldValue month ∧
    weighed .year (codeB 36) (day ++ dow ++ month ++ year) = fieldValue year := by
  simp only [weighed_append, List.length_append, hd, hw, hm]
  refine ⟨?_, ?_, ?_⟩
  · rw [weighed_of_carriesField hd (by decide), weighed_of_carriesNone hw (by decide), weighed_of_carriesNone hm (by decide),
      weighed_of_carriesNone hy (by decide)]
    rfl
  · rw [weighed_of_carriesNone hd (by decide), weighed_of_carriesNone hw (by decide), weighed_of_carriesField hm (by decide),
      weighed_of_carriesNone hy (by decide), Nat.zero_add]
    rfl
  · rw [weighed_of_carriesNone hd (by decide), weighed_of_carriesNone hw (by decide), weighed_of_carriesNone hm (by decide),
      weighed_of_carriesField hy (by decide), Nat.zero_add]

/-- Settles O56: the three fields by their positions, and the parity bit decides. -/
theorem dateGroupIsDecidedByItsParity : Obligations.DateGroupIsDecidedByItsParity := by
  intro s day dow month year p hds hd hw hm hy
  have hlen : (day ++ dow ++ month ++ year).length = 22 := by simp [hd, hw, hm, hy]
  obtain ⟨hday, hmonth, hyear⟩ := weighed_date hd hw hm hy
  generalize day ++ dow ++ month ++ year = bits at hlen hday hmonth hyear ⊢
  have hin : InDomain s.ds bits.length := by rw [hds, hlen]; exact .inr (.inr (by decide))
  have hend : s.ds + BitVec.ofNat 6 bits.length = 59 := by rw [hds, hlen]; rfl
  have hnone : CarriesNone .min s.ds bits.length ∧ CarriesNone .hour s.ds bits.length := by rw [hds, hlen]; decide
  obtain ⟨hpass, hfail⟩ := acceptBits_domain hin (by rw [hend]; decide) p
  refine ⟨fun hp => ⟨_, hpass hp, ?_, rfl, ?_, ?_, ?_, getX_passParity_gather_of_carriesNone hnone.1,
    getX_passParity_gather_of_carriesNone hnone.2, ?_, rfl, rfl, rfl, rfl, rfl, rfl⟩, hfail⟩
  · simp only [passParity, gather, hend]; rfl
  · rw [← hday, ← hds]; exact toNat_getX_passParity_gather .day bits s
  · rw [← hmonth, ← hds]; exact toNat_getX_passParity_gather .month bits s
  · rw [← hyear, ← hds]; exact toNat_getX_passParity_gather .year bits s
  · simp [passParity, gather, hend]

/-! ## The bits of a frame -/

/-- R132: `B0` to `B19` by their codes. -/
theorem acceptBit_ignorable {s : State} (lo : 1 ≤ s.ds.toNat) (hi : s.ds.toNat ≤ 20) (b : Bool) :
    acceptBit b s = .next { s with ds := s.ds + 1 } := by
  have hrule (c : Code) : 1 ≤ c.toNat → c.toNat ≤ 20 → acceptAt c b s = .next { s with ds := c + 1 } := by
    revert c
    refine Code.of_numerals fun n hn lo hi => ?_
    rw [BitVec.toNat_ofNat, Nat.mod_eq_of_lt hn] at lo hi
    interval_cases n <;> rfl
  exact hrule s.ds lo hi

/-- R132: a run of ignorable positions only advances. -/
theorem acceptBits_ignorable {bits : List Bool} {s : State} (lo : 1 ≤ s.ds.toNat) (hi : s.ds.toNat + bits.length ≤ 21) :
    acceptBits bits s = .next { s with ds := s.ds + BitVec.ofNat 6 bits.length } := by
  induction bits generalizing s with
  | nil => simp [acceptBits]
  | cons b bs ih =>
    rw [List.length_cons] at hi
    have hb : acceptBit b s = .next { s with ds := s.ds + 1 } := acceptBit_ignorable lo (by omega) b
    have hnext : (s.ds + 1).toNat = s.ds.toNat + 1 := by bv_omega
    simp only [acceptBits, hb]
    rw [ih (s := { s with ds := s.ds + 1 }), Code.add_length_cons]
    · exact hnext ▸ Nat.le_add_left ..
    · rw [hnext]; omega

theorem length_lsbFirst (n v : Nat) : (lsbFirst n v).length = n := by simp [lsbFirst]

theorem length_digitBits (tens v : Nat) : (digitBits tens v).length = 4 + tens := by
  simp [digitBits, length_lsbFirst]

/-- R88, R102: the low `n` bits of a number, over weights that double from `k` on. -/
theorem weightSum_lsbFirst (k n v : Nat) :
    (((lsbFirst n v).zip ((List.range n).map (k * 2 ^ ·))).map fun p => if p.1 then p.2 else 0).sum =
      k * (v % 2 ^ n) := by
  induction n with
  | zero => simp [lsbFirst, Nat.mod_one]
  | succ n ih =>
    have hbit : (if v.testBit n then k * 2 ^ n else 0) = k * (2 ^ n * (v.testBit n).toNat) := by
      cases v.testBit n <;> simp
    have hlen : (lsbFirst n v).length = ((List.range n).map (k * 2 ^ ·)).length := by simp [length_lsbFirst]
    have hsucc : lsbFirst (n + 1) v = lsbFirst n v ++ [v.testBit n] := by simp [lsbFirst, List.range_succ]
    rw [hsucc, List.range_succ, List.map_append, List.zip_append hlen, List.map_append, List.sum_append, ih]
    simp only [List.map_cons, List.map_nil, List.zip_cons_cons, List.zip_nil_right, List.sum_cons, List.sum_nil,
      Nat.add_zero, hbit]
    rw [← Nat.mul_add, Nat.mod_pow_succ, Nat.toNat_testBit]

/-- R88, R102: the bits of a two-digit value weigh that value. -/
theorem fieldValue_digitBits {tens v : Nat} (ht : tens ≤ 4) (hv : v / 10 < 2 ^ tens) :
    fieldValue (digitBits tens v) = v := by
  have hunits := weightSum_lsbFirst 1 4 (v % 10)
  have htens := weightSum_lsbFirst 10 tens (v / 10)
  have hzip : (digitBits tens v).zip weightList =
      (lsbFirst 4 (v % 10)).zip ((List.range 4).map (1 * 2 ^ ·)) ++
        (lsbFirst tens (v / 10)).zip ((List.range tens).map (10 * 2 ^ ·)) := by
    interval_cases tens <;> rfl
  rw [fieldValue, hzip, List.map_append, List.sum_append, hunits, htens, Nat.mod_eq_of_lt hv]
  omega

/-- R102: bits 0 to 35 of a frame. -/
def timeBits (mi h : Nat) : List Bool :=
  List.replicate 20 false ++ [true] ++ (digitBits 3 mi ++ [xorAll (digitBits 3 mi)]) ++
    (digitBits 2 h ++ [xorAll (digitBits 2 h)])

theorem frameBits_eq (mi h d w mo y : Nat) :
    frameBits mi h d w mo y = timeBits mi h ++ (dateBits d w mo y ++ [xorAll (dateBits d w mo y)]) := by
  simp [frameBits, timeBits]

theorem length_timeBits (mi h : Nat) : (timeBits mi h).length = 36 := by simp [timeBits, length_digitBits]

/-- R132, R133: the leading bits of a frame take the block from `B0` to `B21`. -/
theorem acceptBits_leading {s : State} (hds : s.ds = codeB 0) :
    acceptBits (List.replicate 20 false ++ [true]) s = .next { s with ds := codeB 21 } := by
  have hzeros := acceptBits_ignorable (bits := List.replicate 20 false) (s := s) (by rw [hds]; decide) (by rw [hds]; decide)
  rw [acceptBits_append [true] hzeros, hds]
  rfl

/-- Settles O57: the leading bits, then the three domains, whose parity bits match because `par` is 0. -/
theorem cleanFrameDeliversItsFields : Obligations.CleanFrameDeliversItsFields := by
  intro mi h d w mo y hmi hh hd hw hmo hy
  rw [frameBits_eq, List.take_left' (length_timeBits mi h), List.drop_left' (length_timeBits mi h)]
  constructor
  · intro s hds hpar hmin hhour hci
    have hlead := acceptBits_leading hds
    obtain ⟨-, hminute, -⟩ := minuteGroupIsDecidedByItsParity { s with ds := codeB 21 } (digitBits 3 mi)
      (xorAll (digitBits 3 mi)) rfl (length_digitBits ..)
    obtain ⟨u, hu, huds, hupar, humin, huacc, -⟩ := hminute (by simp [hpar])
    obtain ⟨-, hhours, -⟩ := hourGroupIsDecidedByItsParity u (digitBits 2 h) (xorAll (digitBits 2 h)) huds
      (length_digitBits ..)
    obtain ⟨t, ht, htds, htpar, hthour, htacc, htci, -⟩ := hhours (by simp [hupar])
    have huhour : u.xHour = 0 := (huacc .hour (by decide)).trans hhour
    have htmin : t.xMin = u.xMin := htacc .min (by decide)
    refine ⟨t, ?_, htds, ?_, ?_, htpar, htci⟩
    · rw [timeBits, List.append_assoc, acceptBits_append _ hlead, acceptBits_append _ hu, ht]
    · rw [htmin, humin, fieldValue_digitBits (by decide) (by omega)]; simp [hmin]; omega
    · rw [hthour, huhour, fieldValue_digitBits (by decide) (by omega)]; simp; omega
  · intro s hds hpar hday hmonth hyear
    obtain ⟨hpass, -⟩ := dateGroupIsDecidedByItsParity s (digitBits 2 d) (lsbFirst 3 w) (digitBits 1 mo) (digitBits 4 y)
      (xorAll (dateBits d w mo y)) hds (length_digitBits ..) (length_lsbFirst ..) (length_digitBits ..)
      (length_digitBits ..)
    obtain ⟨t, ht, htds, htpar, htday, htmonth, htyear, -⟩ := hpass (by simp [hpar, dateBits])
    refine ⟨t, ht, htds, ?_, ?_, ?_, htpar⟩
    · rw [htday, hday, fieldValue_digitBits (by decide) (by omega)]; simp; omega
    · rw [htmonth, hmonth, fieldValue_digitBits (by decide) (by omega)]; simp; omega
    · rw [htyear, hyear, fieldValue_digitBits (by decide) (by omega)]; simp; omega

end Sys2Proof.Machine
end

section
/-! SUPPORT. The commit scheduler (42_commit_scheduler R222 to R227): the table of corrected times, the pair at which the midnight
rule fires, and the RTC record of a commit as numbers. -/

namespace Sys2Proof.Machine

open Sys2Proof.Statements

/-! ## The correction and the midnight rule -/

/-- Settles O32: the eight rows, closed facts about the function. -/
theorem correctionTableOfTheSpec : Obligations.CorrectionTableOfTheSpec :=
  ⟨rfl, rfl, rfl, rfl, rfl, rfl, rfl, rfl⟩

/-- R225: the corrected time is 0:00 one minute after it. -/
theorem suppressed_iff_of_corrected {s : State} (hrule : s.midnightRule = .corrected) :
    Suppressed s ↔ s.xMin.toNat = 1 ∧ s.xHour.toNat = 0 := by
  simp only [Suppressed, hrule, minuteBefore, hourBefore]
  by_cases hm : s.xMin.toNat = 0
  · simp [hm]
  · simp only [hm, if_false]; omega

theorem suppressed_iff_of_decoded {s : State} (hrule : s.midnightRule = .decoded) :
    Suppressed s ↔ s.xMin.toNat = 0 ∧ s.xHour.toNat = 0 := by
  simp only [Suppressed, hrule]

/-- R228: `date_we` of the clock record says which of its two clauses holds. -/
theorem dateWe_iff_of_dateWritten {s t : State} {r : RtcRec} {c : ClkRec} (h : DateWritten s t r c) :
    c.dateWe = true ↔ DateDecoded s ∧ ¬ Suppressed s := by
  obtain ⟨hwritten, hknown⟩ := h
  by_cases hdate : DateDecoded s ∧ ¬ Suppressed s
  · obtain ⟨-, -, -, hwe, -⟩ := hwritten hdate
    exact iff_of_true hwe hdate
  · obtain ⟨-, -, -, hwe, -⟩ := hknown hdate
    exact iff_of_false (by simp [hwe]) hdate

/-- Settles O30: the effect of the commit, with the pair that each form of the rule tests. -/
theorem midnightRuleFiresExactlyAt : Obligations.MidnightRuleFiresExactlyAt := by
  intro d s t hci ht
  obtain ⟨u, hu, r, c, hout, -, -, -, -, -, hdate, -, -, -, hacc, -⟩ := (lowOrdinaryCommitsOrDoesNothing d s).2 hci
  cases hu.symm.trans ht
  have hwe := dateWe_iff_of_dateWritten hdate
  refine ⟨r, c, by simpa using hout, fun hrule => ?_, fun hrule => ?_, fun hno => ?_⟩
  · rw [hwe, suppressed_iff_of_corrected hrule]
  · rw [hwe, suppressed_iff_of_decoded hrule]
  · obtain ⟨day, month, year, -, clkDay, clkMonth, clkYear⟩ := hdate.2 (hwe.not.mp (by simp [hno]))
    exact ⟨day, month, year, clkDay, clkMonth, clkYear, hacc .day, hacc .month, hacc .year⟩

/-! ## The RTC record -/

/-- R226, R227, R232: the time of a record, which no form of the rule touches. -/
theorem commitRecord_timeOf (s : State) : TimeOf (commitRecord s) s.xMin.toNat s.xHour.toNat s.kdate := by
  obtain ⟨hmin, hhour⟩ := correctTime_toNat s.xMin s.xHour
  exact ⟨rfl, hmin, hhour, rfl⟩

/-- R225: under `CORRECTED` the date is suppressed when the record says 0:00. -/
theorem suppressed_iff_commitRecord {s : State} (hrule : s.midnightRule = .corrected) :
    Suppressed s ↔ (commitRecord s).minute = 0 ∧ (commitRecord s).hour = 0 := by
  obtain ⟨-, hmin, hhour, -⟩ := commitRecord_timeOf s
  simp only [Suppressed, hrule, BitVec.toNat_eq, hmin, hhour]
  rfl

end Sys2Proof.Machine
end

section
/-! SUPPORT. Presented traces (30_encoding R100, R101): a run over the captures and polls of a list of words is the words taken one
after the other, and a run of bits, each with its gap, is the bits accepted one after the other. -/

namespace Sys2Proof.Machine

open Sys2Proof.Statements

/-! ## The mailbox and the agenda are not read by an operation -/

theorem acceptAt_with_mailbox {c : Code} {b : Bool} {s t : State} (h : acceptAt c b s = .next t) (sl : Slot)
    (a : List AgentAction) :
    acceptAt c b { s with slot := sl, agenda := a } = .next { t with slot := sl, agenda := a } := by
  obtain ⟨l, hl, hrun⟩ := acceptAt_boundary c h s.out s.clk sl a
  obtain ⟨u, hu, hcase⟩ := acceptAt_cases c b s
  cases hu.symm.trans h
  refine hrun.trans ?_
  rw [← hl, ← hcase.onlyEvents.clk]

theorem commitCheck_with_mailbox (s : State) (sl : Slot) (a : List AgentAction) :
    commitCheck { s with slot := sl, agenda := a } = { commitCheck s with slot := sl, agenda := a } := by
  by_cases hci : s.ci = true
  · rw [commitCheck_of_ci hci, commitCheck_of_ci (s := { s with slot := sl, agenda := a }) hci, commit_eq, commit_eq]; rfl
  · rw [commitCheck_of_not_ci hci, commitCheck_of_not_ci (s := { s with slot := sl, agenda := a }) hci]

theorem exec_with_mailbox {i : Instr} {s t : State} (h : exec i s = .next t) (sl : Slot) (a : List AgentAction) :
    exec i { s with slot := sl, agenda := a } = .next { t with slot := sl, agenda := a } := by
  cases i.twoLevel with
  | highZero d => exact acceptAt_with_mailbox (c := s.ds) (s := s.emit .onZero d) h sl a
  | highOne d => exact acceptAt_with_mailbox (c := s.ds) (s := s.emit .onOne d) h sl a
  | highInvalid d => cases h; rfl
  | lowStart d => cases h; exact congrArg _ (commitCheck_with_mailbox (acceptStartMarker (s.emit .onStart d)) sl a)
  | lowOrdinary d => cases h; exact congrArg _ (commitCheck_with_mailbox s sl a)
  | position c b => rw [← acceptAt_eq_exec] at h ⊢; exact acceptAt_with_mailbox h sl a

/-! ## A presented trace -/

/-- R56: a measured duration is not saturated. -/
theorem saturateDur_toNat_self (d : Dur) : saturateDur d.toNat = d :=
  BitVec.eq_of_toNat_eq ((saturateDur_toNat _).trans (Nat.min_eq_left (Nat.le_of_lt_succ d.isLt)))

theorem present_append (a b : List EvWord) : present (a ++ b) = present a ++ present b := List.flatMap_append

theorem runWords_append {a : List EvWord} (b : List EvWord) {s t : State} (h : runWords a s = .next t) :
    runWords (a ++ b) s = runWords b t := by
  induction a generalizing s with
  | nil => cases h; rfl
  | cons w ws ih =>
    obtain ⟨u, hu⟩ := exec_next (decodeEv w) s
    simp only [List.cons_append, runWords, hu] at h ⊢
    exact ih h

/-- R100: the capture of a word and the poll after it run the operation of the word. -/
theorem run_capture_poll {w : EvWord} {s t : State} (h : exec (decodeEv w) s = .next t) (n : Nat) (sl : Slot)
    (a : List AgentAction) :
    core.run (n + 1 + 1) { s with slot := sl, agenda := .capture w.level w.dur.toNat :: .poll :: a } =
      core.run n { t with slot := ⟨false, w.level, w.dur⟩, agenda := a } := by
  have hcapture : step { s with slot := sl, agenda := .capture w.level w.dur.toNat :: .poll :: a } =
      .next { s with slot := ⟨true, w.level, w.dur⟩, agenda := .poll :: a } := by
    rw [step_cons rfl, agentStep, saturateDur_toNat_self]; rfl
  have hpoll : step { s with slot := ⟨true, w.level, w.dur⟩, agenda := .poll :: a } =
      .next { t with slot := ⟨false, w.level, w.dur⟩, agenda := a } := by
    rw [step_cons rfl, agentStep, poll_full rfl]
    exact exec_with_mailbox h ⟨false, w.level, w.dur⟩ a
  rw [run_succ _ hcapture, run_succ _ hpoll]

/-- R100, R110: a presented trace runs its words one after the other, two steps a word. -/
theorem run_present {ws : List EvWord} {s t : State} (h : runWords ws s = .next t) (sl : Slot) (a : List AgentAction) :
    ∃ sl', core.run (2 * ws.length) { s with slot := sl, agenda := present ws ++ a } =
      .next { t with slot := sl', agenda := a } := by
  induction ws generalizing s sl with
  | nil => cases h; exact ⟨sl, rfl⟩
  | cons w ws ih =>
    obtain ⟨u, hu⟩ := exec_next (decodeEv w) s
    simp only [runWords, hu] at h
    obtain ⟨sl', hrun⟩ := ih h ⟨false, w.level, w.dur⟩
    exact ⟨sl', (run_capture_poll hu (2 * ws.length) sl _).trans hrun⟩

/-- R284: what the run of the words at the head of the agenda delivers. -/
theorem run_of_agenda {ws : List EvWord} {a : List AgentAction} {s t : State} (hagenda : s.agenda = present ws ++ a)
    (h : runWords ws s = .next t) :
    ∃ t', core.run (2 * ws.length) s = .next t' ∧ t'.agenda = a ∧ t'.out = t.out := by
  obtain ⟨sl, hrun⟩ := run_present h s.slot a
  rw [← hagenda] at hrun
  exact ⟨_, hrun, rfl, rfl⟩

/-! ## The words of a second -/

/-- R101: the classification event of a bit's word. -/
def bitCode (b : Bool) : DiagCode := if b = true then .onOne else .onZero

/-- R101: `BIT0` and `BIT1` are accepted after their classification event. -/
theorem exec_wordBit (b : Bool) (s : State) :
    exec (decodeEv (wordBit b)) s = acceptBit b (s.emit (bitCode b) (bitDur b)) := by
  cases b <;> rfl

theorem exec_wordLow_of_ordinary {m : Nat} (hm : m ≤ 1600) (s : State) :
    exec (decodeEv (wordLow m)) s = .next (commitCheck s) := by
  have hdur : (BitVec.ofNat 15 m).toNat = m := Nat.mod_eq_of_lt (by omega)
  rw [wordLow, decodeEv_evWord, decodeEvent_lowOrdinary, exec_lowOrdinary]
  rw [lowOrdinary_wf_iff, classifyLow_eq_ordinary_iff, hdur]; omega

theorem exec_wordLow_of_marker {m : Nat} (lo : 1601 ≤ m) (hi : m ≤ 1999) (s : State) :
    exec (decodeEv (wordLow m)) s = .next (commitCheck (acceptStartMarker (s.emit .onStart (BitVec.ofNat 15 m)))) := by
  have hdur : (BitVec.ofNat 15 m).toNat = m := Nat.mod_eq_of_lt (by omega)
  rw [wordLow, decodeEv_evWord, decodeEvent_lowStart, exec_lowStart]
  rw [lowStart_wf_iff, classifyLow_eq_startMarker_iff, hdur]; omega

/-- R101: `SEC b` is the bit, then the commit check. -/
theorem runWords_second {b : Bool} {s t : State} (h : acceptBit b (s.emit (bitCode b) (bitDur b)) = .next t) :
    runWords (second b) s = .next (commitCheck t) := by
  have hgap : exec (decodeEv (wordGap b)) t = .next (commitCheck t) := by
    cases b <;> exact exec_wordLow_of_ordinary (by decide) t
  simp only [second, runWords, exec_wordBit, h, hgap]

/-- R101: `LAST b` is the bit, then a start marker. -/
theorem runWords_lastSecond {b : Bool} {s t : State} (h : acceptBit b (s.emit (bitCode b) (bitDur b)) = .next t) :
    ∃ d, runWords (lastSecond b) s = .next (commitCheck (acceptStartMarker (t.emit .onStart d))) := by
  have hmark : ∃ d, exec (decodeEv (wordMark b)) t = .next (commitCheck (acceptStartMarker (t.emit .onStart d))) := by
    cases b <;> exact ⟨_, exec_wordLow_of_marker (by decide) (by decide) t⟩
  obtain ⟨d, hd⟩ := hmark
  exact ⟨d, by simp only [lastSecond, runWords, exec_wordBit, h, hd]⟩

/-! ## Seconds without a commit -/

/-- R27, R61: between `s` and `t` records are only added, and if none is, then no intent is lost. -/
def KeepsIntent (s t : State) : Prop := ∃ l : List OutRec, t.out = s.out ++ l ∧ (l = [] → s.ci = true → t.ci = true)

theorem KeepsIntent.refl (s : State) : KeepsIntent s s := ⟨[], (List.append_nil _).symm, fun _ => id⟩

theorem KeepsIntent.trans {s t u : State} (h : KeepsIntent s t) (k : KeepsIntent t u) : KeepsIntent s u := by
  obtain ⟨l, hl, hci⟩ := h
  obtain ⟨m, hm, hci'⟩ := k
  refine ⟨l ++ m, by rw [hm, hl, List.append_assoc], fun hnil hs => ?_⟩
  obtain ⟨hl0, hm0⟩ := List.append_eq_nil_iff.mp hnil
  exact hci' hm0 (hci hl0 hs)

/-- R240: a bit takes the intent back only by a failure, which is delivered. -/
theorem acceptBit_keepsIntent {b : Bool} {s t : State} (h : acceptBit b s = .next t) : KeepsIntent s t := by
  obtain ⟨-, hs⟩ | ⟨-, k, hs⟩ := acceptBit_cases b s
  · cases hs.symm.trans h
    exact ⟨[], (List.append_nil _).symm, fun _ hci => by simp [takeBit, hci]⟩
  · cases hs.symm.trans h
    exact ⟨[ev .onReadFailed 0], failRecovery_out .., by simp⟩

theorem acceptBits_cons {b : Bool} {bs : List Bool} {s t : State} (h : acceptBits (b :: bs) s = .next t) :
    ∃ u, acceptBit b s = .next u ∧ acceptBits bs u = .next t := by
  obtain ⟨u, hu, -⟩ := acceptAt_cases s.ds b s
  have hb : acceptBit b s = .next u := hu
  exact ⟨u, hb, by simpa only [acceptBits, hb] using h⟩

theorem acceptBits_keepsIntent {bits : List Bool} {s t : State} (h : acceptBits bits s = .next t) : KeepsIntent s t := by
  induction bits generalizing s with
  | nil => cases h; exact .refl _
  | cons b bs ih =>
    obtain ⟨u, hu, ht⟩ := acceptBits_cons h
    exact (acceptBit_keepsIntent hu).trans (ih ht)

/-- The bits are accepted from `s` to `t` with no failure, and no intent stands at the end. -/
structure Calm (bits : List Bool) (s t : State) : Prop where
  run : acceptBits bits s = .next t
  out : t.out = s.out
  ci : t.ci = false

/-- The first bit of a calm run neither delivers anything nor raises the intent, for both would last. -/
theorem Calm.cons {b : Bool} {bs : List Bool} {s t : State} (h : Calm (b :: bs) s t) :
    ∃ u, acceptBit b s = .next u ∧ u.out = s.out ∧ u.ci = false ∧ Calm bs u t := by
  obtain ⟨u, hu, ht⟩ := acceptBits_cons h.run
  obtain ⟨l, hl, -⟩ := acceptBit_keepsIntent hu
  obtain ⟨m, hm, hci⟩ := acceptBits_keepsIntent ht
  have hnil : l ++ m = [] := by simpa [hm, hl] using h.out
  obtain ⟨rfl, rfl⟩ := List.append_eq_nil_iff.mp hnil
  rw [List.append_nil] at hl hm
  refine ⟨u, hu, hl, ?_, ht, hm, h.ci⟩
  rw [← Bool.not_eq_true]
  exact fun hraised => by simpa [h.ci] using hci rfl hraised

/-- R131: a position rule that delivers nothing does the same after other records. -/
theorem acceptBit_with_out {b : Bool} {s t : State} (h : acceptBit b s = .next t) (hout : t.out = s.out) (o : List OutRec) :
    acceptBit b { s with out := o } = .next { t with out := o } := by
  obtain ⟨l, hl, hrun⟩ := acceptAt_boundary s.ds h o s.clk s.slot s.agenda
  obtain ⟨u, hu, hcase⟩ := acceptAt_cases s.ds b s
  cases hu.symm.trans h
  obtain ⟨hslot, hclk, -, -, hagenda⟩ := hcase.onlyEvents.toSameOutside
  obtain rfl : l = [] := by simpa [hout] using hl
  refine Eq.trans hrun ?_
  rw [List.append_nil, ← hslot, ← hclk, ← hagenda]

/-- R101, R116: in a calm run of seconds the gaps do nothing, so only the classification events are delivered. -/
theorem Calm.runWords_seconds {bits : List Bool} {s t : State} (h : Calm bits s t) (o : List OutRec) :
    ∃ l : List DiagRec,
      runWords (bits.flatMap second) { s with out := o } = .next { t with out := o ++ l.map .diag } := by
  induction bits generalizing s o with
  | nil => cases h.run; exact ⟨[], by simp [runWords]⟩
  | cons b bs ih =>
    obtain ⟨u, hu, hout, hci, ht⟩ := h.cons
    have hbit : acceptBit b ({ s with out := o }.emit (bitCode b) (bitDur b)) =
        .next { u with out := o ++ [ev (bitCode b) (bitDur b)] } := acceptBit_with_out hu hout _
    obtain ⟨l, hl⟩ := ih ht (o ++ [ev (bitCode b) (bitDur b)])
    refine ⟨⟨bitCode b, bitDur b⟩ :: l, ?_⟩
    have hsecond := runWords_second hbit
    rw [commitCheck_of_not_ci (by simp [hci])] at hsecond
    rw [List.flatMap_cons, runWords_append _ hsecond, hl]
    simp

end Sys2Proof.Machine
end

section
/-! SUPPORT. The frame of the helper (30_encoding R102) cut at the parity bits of the hour and of the date, and the whole state that
the bits before each of the two leave. -/

namespace Sys2Proof.Machine

open Sys2Proof.Statements

/-! ## The bits of a frame before its last two parity bits -/

/-- R102: bits 0 to 34 of a frame. -/
def bitsToHour (mi h : Nat) : List Bool :=
  List.replicate 20 false ++ [true] ++ (digitBits 3 mi ++ [xorAll (digitBits 3 mi)]) ++ digitBits 2 h

theorem frameBits_eq_bitsToHour (mi h d w mo y : Nat) :
    frameBits mi h d w mo y =
      bitsToHour mi h ++ [xorAll (digitBits 2 h)] ++ dateBits d w mo y ++ [xorAll (dateBits d w mo y)] := by
  simp [frameBits, bitsToHour]

theorem length_dateBits (d w mo y : Nat) : (dateBits d w mo y).length = 22 := by
  simp [dateBits, length_digitBits, length_lsbFirst]

theorem frameWords_eq (mi h d w mo y : Nat) :
    frameWords mi h d w mo y =
      (bitsToHour mi h).flatMap second ++ second (xorAll (digitBits 2 h)) ++
        ((dateBits d w mo y).flatMap second ++ lastSecond (xorAll (dateBits d w mo y))) := by
  have hlen : (bitsToHour mi h ++ [xorAll (digitBits 2 h)] ++ dateBits d w mo y).length = 58 := by
    simp [bitsToHour, length_digitBits, length_dateBits]
  rw [frameWords, frameBits_eq_bitsToHour, List.take_left' hlen, List.drop_left' hlen]
  simp

theorem length_frameWords (mi h d w mo y : Nat) : (frameWords mi h d w mo y).length = 118 := by
  rw [frameWords_eq]
  simp [bitsToHour, length_digitBits, length_dateBits, second, lastSecond]

/-- R134: a run of covered positions that hold the bits of the one field `f`. -/
theorem gather_of_carriesField {f : Field} {bits : List Bool} {s : State} (hf : CarriesField f s.ds bits.length)
    (hother : ∀ g, g ≠ f → CarriesNone g s.ds bits.length) :
    gather bits s =
      { s.setX f (s.getX f + BitVec.ofNat 8 (fieldValue bits)) with
        ds := s.ds + BitVec.ofNat 6 bits.length, par := s.par ^^ xorAll bits } := by
  have hw (g : Field) : BitVec.ofNat 8 (weighed g s.ds bits) =
      if g = f then BitVec.ofNat 8 (fieldValue bits) else 0 := by
    split
    · next h => rw [h, weighed_of_carriesField rfl hf]
    · next h => rw [weighed_of_carriesNone rfl (hother g h)]; rfl
  cases f <;> simp [gather, hw, State.setX, State.getX]

/-- R203: the minute of a frame with its parity bit. -/
theorem acceptBits_minute {mi : Nat} (s : State) (hds : s.ds = codeB 21) (hpar : s.par = false) (hmi : mi ≤ 79) :
    acceptBits (digitBits 3 mi ++ [xorAll (digitBits 3 mi)]) s =
      .next { s with ds := codeB 29, xMin := s.xMin + BitVec.ofNat 8 mi, par := false } := by
  have hlen := length_digitBits 3 mi
  have hval : fieldValue (digitBits 3 mi) = mi := fieldValue_digitBits (by decide) (by omega)
  obtain ⟨hpass, -⟩ := acceptBits_domain (s := s) (bits := digitBits 3 mi) (by rw [hds, hlen]; exact .inl (by decide))
    (by rw [hds, hlen]; decide) (xorAll (digitBits 3 mi))
  rw [hpass (by simp [hpar]), gather_of_carriesField (f := .min) (by rw [hds, hlen]; decide)
    (by rw [hds, hlen]; intro g; cases g <;> decide), hds, hlen, hval]
  simp [passParity, State.setX, State.getX, codeB, successor]

/-- R203: the hour of a frame, without its parity bit. -/
theorem acceptBits_hour {h : Nat} (s : State) (hds : s.ds = codeB 29) (hpar : s.par = false) (hh : h ≤ 39) :
    acceptBits (digitBits 2 h) s =
      .next { s with ds := codeB 35, xHour := s.xHour + BitVec.ofNat 8 h, par := xorAll (digitBits 2 h) } := by
  have hlen := length_digitBits 2 h
  have hval : fieldValue (digitBits 2 h) = h := fieldValue_digitBits (by decide) (by omega)
  rw [acceptBits_inDomain (by rw [hds, hlen]; exact .inr (.inl (by decide))),
    gather_of_carriesField (f := .hour) (by rw [hds, hlen]; decide) (by rw [hds, hlen]; intro g; cases g <;> decide), hds,
    hlen, hval, hpar, Bool.false_xor]
  rfl

/-- R203: the time bits of a frame, without the parity bit of the hour. -/
theorem acceptBits_bitsToHour {mi h : Nat} (hmi : mi ≤ 79) (hh : h ≤ 39) {s : State} (hds : s.ds = codeB 0)
    (hpar : s.par = false) :
    acceptBits (bitsToHour mi h) s =
      .next { s with
        ds := codeB 35, xMin := s.xMin + BitVec.ofNat 8 mi, xHour := s.xHour + BitVec.ofNat 8 h
        par := xorAll (digitBits 2 h) } := by
  have hlead := acceptBits_leading hds
  have hminute := acceptBits_minute { s with ds := codeB 21 } rfl hpar hmi
  have hhour := acceptBits_hour { s with ds := codeB 29, xMin := s.xMin + BitVec.ofNat 8 mi, par := false } rfl rfl hh
  rw [bitsToHour, List.append_assoc, acceptBits_append _ hlead, acceptBits_append _ hminute, hhour]

/-- R203: the date bits of a frame, without their parity bit. -/
theorem acceptBits_dateBits {d w mo y : Nat} (hd : d ≤ 39) (hmo : mo ≤ 19) (hy : y ≤ 99) {s : State}
    (hds : s.ds = codeB 36) (hpar : s.par = false) :
    acceptBits (dateBits d w mo y) s =
      .next { s with
        ds := codeB 58, xDay := s.xDay + BitVec.ofNat 8 d, xMonth := s.xMonth + BitVec.ofNat 8 mo
        xYear := s.xYear + BitVec.ofNat 8 y, par := xorAll (dateBits d w mo y) } := by
  have hlen := length_dateBits d w mo y
  have hin : InDomain s.ds (dateBits d w mo y).length := by rw [hds, hlen]; exact .inr (.inr (by decide))
  have hnone : CarriesNone .min s.ds (dateBits d w mo y).length ∧ CarriesNone .hour s.ds (dateBits d w mo y).length := by
    rw [hds, hlen]; decide
  obtain ⟨hday, hmonth, hyear⟩ := weighed_date (length_digitBits 2 d) (length_lsbFirst 3 w) (length_digitBits 1 mo)
    (length_digitBits 4 y)
  rw [fieldValue_digitBits (by decide) (by omega)] at hday hmonth hyear
  rw [acceptBits_inDomain hin]
  rw [← dateBits] at hday hmonth hyear
  have hmin := weighed_of_carriesNone rfl hnone.1
  have hhour := weighed_of_carriesNone rfl hnone.2
  rw [hds] at hmin hhour
  simp only [gather, hds, hpar, hlen, hmin, hhour, hday, hmonth, hyear, Bool.false_xor]
  simp [codeB]

end Sys2Proof.Machine
end

section
/-! SUPPORT. A frame taken word by word (30_encoding R101; 42_commit_scheduler R220, R227, R232): its time is committed at the gap
after `B35`, its date stays in the accumulators for the next frame's commit. -/

namespace Sys2Proof.Machine

open Sys2Proof.Statements

/-! ## The two halves of a frame -/

/-- R232: the block stands at position `p` with no parity, no intent and no time accumulated. -/
structure Idle (p : Code) (s : State) : Prop where
  ds : s.ds = p
  par : s.par = false
  ci : s.ci = false
  xMin : s.xMin = 0
  xHour : s.xHour = 0

/-- R221: the date in the accumulators. -/
abbrev HoldsDate (d mo y : Nat) (s : State) : Prop :=
  s.xDay = BitVec.ofNat 8 d ∧ s.xMonth = BitVec.ofNat 8 mo ∧ s.xYear = BitVec.ofNat 8 y

/-- R57, R225: what a commit reads besides the accumulators. -/
abbrev SameInputs (s t : State) : Prop := t.kdate = s.kdate ∧ t.midnightRule = s.midnightRule

/-- R232: the state whose time a frame commits. -/
def withTime (mi h : Nat) (s : State) : State := { s with xMin := BitVec.ofNat 8 mi, xHour := BitVec.ofNat 8 h }

/-- R232: the state that holds a frame's date. -/
def withDate (d mo y : Nat) (s : State) : State :=
  { s with xDay := BitVec.ofNat 8 d, xMonth := BitVec.ofNat 8 mo, xYear := BitVec.ofNat 8 y }

theorem rtcRecords_append_diag (o : List OutRec) (l : List DiagRec) : rtcRecords (o ++ l.map .diag) = rtcRecords o := by
  simp [rtcRecords, List.filterMap_map]

/-- R229: what `Commit` leaves where no parity is pending. -/
theorem idle_commit {s : State} (hpar : s.par = false) :
    Idle s.ds (commit s) ∧ HoldsDate 0 0 0 (commit s) ∧ SameInputs s (commit s) := by
  rw [commit_eq]
  exact ⟨⟨rfl, hpar, rfl, rfl, rfl⟩, ⟨rfl, rfl, rfl⟩, rfl, rfl⟩

/-- R101, R176, R220: the second of the hour's parity bit commits at its gap. -/
theorem runWords_hourParity {p : Bool} {s : State} (hds : s.ds = codeB 35) (hp : p = s.par) :
    ∃ t, runWords (second p) s = .next t ∧ Idle (codeB 36) t ∧ HoldsDate 0 0 0 t ∧ SameInputs s t ∧
      rtcRecords t.out = rtcRecords s.out ++ [commitRecord s] := by
  have hbit : acceptBit p (s.emit (bitCode p) (bitDur p)) =
      .next { s.emit (bitCode p) (bitDur p) with ds := codeB 36, par := false, ci := true } := by
    rw [(acceptBit_atParity (s := s.emit (bitCode p) (bitDur p)) (.inr (.inl hds)) p).1 hp]
    simp [passParity, hds, codeB, successor]
  have hsecond := runWords_second hbit
  rw [commitCheck_of_ci rfl] at hsecond
  obtain ⟨hidle, hdate, hinputs⟩ := idle_commit
    (s := { s.emit (bitCode p) (bitDur p) with ds := codeB 36, par := false, ci := true }) rfl
  refine ⟨_, hsecond, hidle, hdate, hinputs, ?_⟩
  rw [(commit_records _).1]
  exact congrArg (· ++ [commitRecord s]) (rtcRecords_append_diag s.out [⟨bitCode p, bitDur p⟩])

/-- R101, R199: the second of the date's parity bit ends at the next frame's `B0`. -/
theorem runWords_dateParity {p : Bool} {s : State} (hds : s.ds = codeB 58) (hci : s.ci = false) (hp : p = s.par) :
    ∃ l : List DiagRec,
      runWords (lastSecond p) s = .next { s with ds := codeB 0, par := false, out := s.out ++ l.map .diag } := by
  have hbit : acceptBit p (s.emit (bitCode p) (bitDur p)) =
      .next { s.emit (bitCode p) (bitDur p) with ds := 0, par := false } := by
    rw [(acceptBit_atParity (s := s.emit (bitCode p) (bitDur p)) (.inr (.inr hds)) p).1 hp]
    simp [passParity, hds, codeB, successor]
  obtain ⟨d, hd⟩ := runWords_lastSecond hbit
  refine ⟨[⟨bitCode p, bitDur p⟩, ⟨.onStart, d⟩, ⟨.onReadStarted, 0⟩], ?_⟩
  rw [hd, commitCheck_of_not_ci (by simp [acceptStartMarker_emit, hci]), acceptStartMarker_emit]
  simp [codeB]

/-- R101, R176, R220: the seconds 0 to 35 of a frame commit its time, with the date that stood in the accumulators. -/
theorem runWords_time {mi h : Nat} (hmi : mi ≤ 79) (hh : h ≤ 39) {s : State} (hs : Idle (codeB 0) s) :
    ∃ t, runWords ((bitsToHour mi h).flatMap second ++ second (xorAll (digitBits 2 h))) s = .next t ∧
      Idle (codeB 36) t ∧ HoldsDate 0 0 0 t ∧ SameInputs s t ∧
      rtcRecords t.out = rtcRecords s.out ++ [commitRecord (withTime mi h s)] := by
  have hbits : acceptBits (bitsToHour mi h) s =
      .next { withTime mi h s with ds := codeB 35, par := xorAll (digitBits 2 h) } := by
    simpa [withTime, hs.xMin, hs.xHour] using acceptBits_bitsToHour hmi hh hs.ds hs.par
  have hcalm : Calm (bitsToHour mi h) s _ := ⟨hbits, rfl, hs.ci⟩
  obtain ⟨l, hl⟩ := hcalm.runWords_seconds s.out
  obtain ⟨t, ht, hidle, hdate, hinputs, hrtc⟩ := runWords_hourParity (p := xorAll (digitBits 2 h))
    (s := { withTime mi h s with ds := codeB 35, par := xorAll (digitBits 2 h), out := s.out ++ l.map .diag }) rfl rfl
  refine ⟨t, (runWords_append _ hl).trans ht, hidle, hdate, hinputs, ?_⟩
  rw [hrtc, rtcRecords_append_diag]
  rfl

/-- R101, R199: the seconds 36 to 58 of a frame leave its date in the accumulators and commit nothing. -/
theorem runWords_date {d w mo y : Nat} (hd : d ≤ 39) (hmo : mo ≤ 19) (hy : y ≤ 99) {s : State}
    (hs : Idle (codeB 36) s) (hdate : HoldsDate 0 0 0 s) :
    ∃ t, runWords ((dateBits d w mo y).flatMap second ++ lastSecond (xorAll (dateBits d w mo y))) s = .next t ∧
      Idle (codeB 0) t ∧ HoldsDate d mo y t ∧ SameInputs s t ∧ rtcRecords t.out = rtcRecords s.out := by
  obtain ⟨hday, hmonth, hyear⟩ := hdate
  have hbits : acceptBits (dateBits d w mo y) s =
      .next { withDate d mo y s with ds := codeB 58, par := xorAll (dateBits d w mo y) } := by
    simpa [withDate, hday, hmonth, hyear] using acceptBits_dateBits (w := w) hd hmo hy hs.ds hs.par
  have hcalm : Calm (dateBits d w mo y) s _ := ⟨hbits, rfl, hs.ci⟩
  obtain ⟨l, hl⟩ := hcalm.runWords_seconds s.out
  obtain ⟨m, hm⟩ := runWords_dateParity (p := xorAll (dateBits d w mo y))
    (s := { withDate d mo y s with ds := codeB 58, par := xorAll (dateBits d w mo y), out := s.out ++ l.map .diag })
    rfl hs.ci rfl
  refine ⟨_, (runWords_append _ hl).trans hm, ⟨rfl, rfl, hs.ci, hs.xMin, hs.xHour⟩, ⟨rfl, rfl, rfl⟩, ⟨rfl, rfl⟩, ?_⟩
  rw [rtcRecords_append_diag, rtcRecords_append_diag]

/-! ## The record of a frame -/

/-- A byte holds a value of two digits. -/
theorem toNat_ofNat_val {n : Nat} (hn : n ≤ 99) : (BitVec.ofNat 8 n).toNat = n := Nat.mod_eq_of_lt (by omega)

theorem timeOf_commitRecord_withTime {mi h : Nat} (hmi : mi ≤ 99) (hh : h ≤ 99) (s : State) :
    TimeOf (commitRecord (withTime mi h s)) mi h s.kdate := by
  have htime := commitRecord_timeOf (withTime mi h s)
  simp only [withTime, toNat_ofNat_val hmi, toNat_ofNat_val hh] at htime
  exact htime

/-- R227, R232: the date of the record `r` where the date `d`, `mo`, `y` stood in the accumulators: that date, unless the record
says 0:00 or no date was decoded. -/
abbrev DateOf (r : RtcRec) (d mo y : Nat) (k : KDate) : Prop :=
  ((r.minute = 0 ∧ r.hour = 0) ∨ (d = 0 ∧ mo = 0 ∧ y = 0) →
    r.day = k.day ∧ r.month = k.month ∧ r.year = k.year) ∧
  (¬ ((r.minute = 0 ∧ r.hour = 0) ∨ (d = 0 ∧ mo = 0 ∧ y = 0)) →
    r.day.toNat = d ∧ r.month.toNat = mo ∧ r.year.toNat = y)

theorem dateOf_commitRecord_withTime (mi h : Nat) {d mo y : Nat} (hd : d ≤ 99) (hmo : mo ≤ 99) (hy : y ≤ 99) {s : State}
    (hrule : s.midnightRule = .corrected) (hdate : HoldsDate d mo y s) :
    DateOf (commitRecord (withTime mi h s)) d mo y s.kdate := by
  obtain ⟨hday, hmonth, hyear⟩ := hdate
  have hdecoded : DateDecoded (withTime mi h s) ↔ ¬ (d = 0 ∧ mo = 0 ∧ y = 0) := by
    simp only [DateDecoded, withTime, hday, hmonth, hyear, toNat_ofNat_val hd, toNat_ofNat_val hmo, toNat_ofNat_val hy]
    omega
  obtain ⟨hwritten, hknown⟩ := commit_dateWritten (withTime mi h s)
  rw [hdecoded, suppressed_iff_commitRecord (s := withTime mi h s) hrule, ← not_or, or_comm] at hwritten hknown
  constructor
  · intro hor
    obtain ⟨hrday, hrmonth, hryear, -⟩ := hknown (not_not_intro hor)
    exact ⟨hrday, hrmonth, hryear⟩
  · intro hno
    obtain ⟨hrday, hrmonth, hryear, -⟩ := hwritten hno
    rw [hrday, hrmonth, hryear]
    simp only [withTime, hday, hmonth, hyear]
    exact ⟨toNat_ofNat_val hd, toNat_ofNat_val hmo, toNat_ofNat_val hy⟩

/-! ## Two frames after a start marker -/

/-- R232: the block at the start of a frame, with the date `d`, `mo`, `y` of the frame before and the known date `k`. -/
structure FrameStart (k : KDate) (d mo y : Nat) (s : State) : Prop where
  idle : Idle (codeB 0) s
  date : HoldsDate d mo y s
  kdate : s.kdate = k
  rule : s.midnightRule = .corrected

/-- R130: a start marker begins a frame. -/
theorem runWords_marker {m : Nat} (lo : 1601 ≤ m) (hi : m ≤ 1999) {s : State} (hacc : ∀ f, s.getX f = 0)
    (hpar : s.par = false) (hci : s.ci = false) (hrule : s.midnightRule = .corrected) :
    ∃ t, runWords [wordLow m] s = .next t ∧ FrameStart s.kdate 0 0 0 t ∧ rtcRecords t.out = rtcRecords s.out := by
  have hword := exec_wordLow_of_marker lo hi s
  rw [acceptStartMarker_emit, commitCheck_of_not_ci (by simp [hci])] at hword
  refine ⟨{ s with ds := codeB 0, out := s.out ++ [ev .onStart (BitVec.ofNat 15 m), ev .onReadStarted 0] },
    by simp only [runWords, hword]; rfl, ⟨⟨rfl, hpar, hci, hacc .min, hacc .hour⟩, ⟨hacc .day, hacc .month, hacc .year⟩, rfl,
    hrule⟩, ?_⟩
  exact rtcRecords_append_diag s.out [⟨.onStart, _⟩, ⟨.onReadStarted, 0⟩]

/-- R232: a frame delivers one record, its own time with the date of the frame before, and leaves its own date. -/
theorem runWords_frame {mi h d w mo y : Nat} (hmi : mi ≤ 79) (hh : h ≤ 39) (hd : d ≤ 39) (hmo : mo ≤ 19) (hy : y ≤ 99)
    {d0 mo0 y0 : Nat} (hd0 : d0 ≤ 99) (hmo0 : mo0 ≤ 99) (hy0 : y0 ≤ 99) {k : KDate} {s : State}
    (hs : FrameStart k d0 mo0 y0 s) :
    ∃ t r, runWords (frameWords mi h d w mo y) s = .next t ∧ FrameStart k d mo y t ∧
      rtcRecords t.out = rtcRecords s.out ++ [r] ∧ TimeOf r mi h k ∧ DateOf r d0 mo0 y0 k := by
  obtain ⟨hidle, hdate, rfl, hrule⟩ := hs
  obtain ⟨u, hu, hidle1, hdate1, ⟨hkdate1, hrule1⟩, hrtc1⟩ := runWords_time hmi hh hidle
  obtain ⟨t, ht, hidle2, hdate2, ⟨hkdate2, hrule2⟩, hrtc2⟩ := runWords_date (w := w) hd hmo hy hidle1 hdate1
  refine ⟨t, _, ?_, ⟨hidle2, hdate2, hkdate2.trans hkdate1, (hrule2.trans hrule1).trans hrule⟩, hrtc2.trans hrtc1,
    timeOf_commitRecord_withTime (by omega) (by omega) s, dateOf_commitRecord_withTime mi h hd0 hmo0 hy0 hrule hdate⟩
  rw [frameWords_eq, runWords_append _ hu, ht]

/-- Settles O58: the marker and the two frames one after the other; the first frame starts with no date accumulated, the second
with the first frame's. -/
theorem roundTripDeliversTheDecrementedTime : Obligations.RoundTripDeliversTheDecrementedTime := by
  intro m mi h d w mo y mi2 h2 d2 w2 mo2 y2 lo hi hmi hh hd hw hmo hy hmi2 hh2 hd2 hw2 hmo2 hy2 s hacc hpar hci hrule hagenda
  obtain ⟨u0, hu0, hstart0, hrtc0⟩ := runWords_marker lo hi hacc hpar hci hrule
  obtain ⟨u1, r, hu1, hstart1, hrtc1, htime1, hknown1, -⟩ :=
    runWords_frame (w := w) (by omega : mi ≤ 79) (by omega : h ≤ 39) hd hmo hy (by decide) (by decide) (by decide) hstart0
  obtain ⟨u2, r2, hu2, -, hrtc2, htime2, hdate2⟩ :=
    runWords_frame (w := w2) (by omega : mi2 ≤ 79) (by omega : h2 ≤ 39) hd2 hmo2 hy2 (by omega) (by omega) hy hstart1
  have hrun1 : runWords (wordLow m :: frameWords mi h d w mo y) s = .next u1 := (runWords_append _ hu0).trans hu1
  have hrun2 := (runWords_append (frameWords mi2 h2 d2 w2 mo2 y2) hrun1).trans hu2
  obtain ⟨t1, ht1, hagenda1, hout1⟩ := run_of_agenda (by rw [hagenda, ← present_append]; rfl) hrun1
  obtain ⟨t, ht, hagenda2, hout2⟩ := run_of_agenda (a := []) (by rw [hagenda, List.append_nil]; rfl) hrun2
  simp only [List.length_append, List.length_cons, length_frameWords] at ht1 ht
  rw [← hout1, hrtc0] at hrtc1
  rw [← hout2, ← hout1, hrtc1, List.append_assoc] at hrtc2
  exact ⟨t1, t, r, r2, ht1, hagenda1, hrtc1, ht, hagenda2, hrtc2, htime1, htime2, hknown1 (.inr ⟨rfl, rfl, rfl⟩), hdate2⟩

end Sys2Proof.Machine
end

section
/-! SUPPORT. FailureRecovery against reset, and a second FailureRecovery (43_failure_recovery.md). -/

namespace Sys2Proof.Machine

open Sys2Proof.Statements

/-- Settles O35: FailureRecovery leaves the frame at the values of R33, which reset has; its kind is read nowhere. -/
theorem failureLeavesTheResetFrame : Obligations.FailureLeavesTheResetFrame := by
  intro k k' s
  obtain ⟨hds, hacc, hpar, hci, hout, hboundary⟩ := failedFrom_nil k s
  obtain ⟨rds, racc, rpar, rci, -, -⟩ := resetStateOfTheSpec
  exact ⟨hds.trans rds.symm, fun f => (hacc f).trans (racc f).symm, hpar.trans rpar.symm, hci.trans rci.symm,
    failRecovery_out k s, hboundary, rfl⟩

/-- R33, R240: a waiting block's frame is already cleared. -/
theorem clearFrame_of_waiting {s : State} (hs : Waiting s) : s.clearFrame = s := by
  obtain ⟨hds, hacc, hpar, hci⟩ := hs
  calc s.clearFrame
    _ = { s with
          ds := s.ds, xMin := s.getX .min, xHour := s.getX .hour, xDay := s.getX .day, xMonth := s.getX .month
          xYear := s.getX .year, par := s.par, ci := s.ci } := by simp only [hds, hacc, hpar, hci, State.clearFrame]
    _ = s := rfl

/-- R242: a failure of a waiting block only delivers its event. -/
theorem failRecovery_of_waiting {s : State} (hs : Waiting s) (k : FailKind) :
    failRecovery k s = { s with out := s.out ++ [ev .onReadFailed 0] } := by
  rw [failRecovery_eq, clearFrame_of_waiting hs]

/-- Settles O36: the first failure leaves the block waiting, and so does the classification event of an Invalid pulse taken
there; the failure that follows only delivers its event. -/
theorem failureIsIdempotent : Obligations.FailureIsIdempotent := by
  constructor
  · intro k k' s
    rw [failRecovery_of_waiting (waiting_failRecovery k s), failRecovery_out, List.append_assoc]
    rfl
  · intro d s hds hacc hpar hci
    have hs : Waiting (s.emit .onInvalid d) := Waiting.emit ⟨hds, hacc, hpar, hci⟩ ..
    rw [exec_highInvalid, failRecovery_of_waiting hs, State.emit_out, List.append_assoc]
    rfl

end Sys2Proof.Machine
end

section
/-! SUPPORT. How many failures the parts of a poll deliver (60_exceptions R251, R254). -/

namespace Sys2Proof.Machine

open Sys2Proof.Statements

theorem failures_append (a b : List OutRec) : failures (a ++ b) = failures a + failures b := by
  rw [failures, diagRecords_append, List.countP_append]; rfl

/-- R251: only `ON_READ_FAILED` shows a failure. -/
theorem failures_emit {c : DiagCode} (hc : c ≠ .onReadFailed) (d : Dur) (s : State) :
    failures (s.emit c d).out = failures s.out := by
  rw [State.emit_out, failures_append]
  simp [failures, diagRecords, hc]

theorem failures_failRecovery (k : FailKind) (s : State) : failures (failRecovery k s).out = failures s.out + 1 := by
  rw [failRecovery_out, failures_append]; rfl

theorem failures_acceptStartMarker (s : State) : failures (acceptStartMarker s).out = failures s.out :=
  failures_emit (by decide) 0 (s.setDs 1)

theorem failures_commitCheck (s : State) : failures (commitCheck s).out = failures s.out := by
  rw [commitCheck_out, failures_append]
  split <;> rfl

/-- R254: a position rule fails at most once. -/
theorem AcceptCase.failures_le {c : Code} {s t : State} (h : AcceptCase c s t) :
    failures t.out ≤ failures s.out + 1 := by
  cases h with
  | ignored _ ht => rw [ht]; exact Nat.le_succ _
  | advanced _ _ _ out => rw [out]; exact Nat.le_succ _
  | failed _ k ht => rw [ht, failures_failRecovery]

/-- R254: a low event cannot fail. -/
theorem EventCase.failures_of_low {s t : State} (h : EventCase s t) (hl : s.slot.level = .low) :
    failures t.out = failures s.out := by
  cases h with
  | zero hh => cases hh.symm.trans hl
  | one hh => cases hh.symm.trans hl
  | invalid hh => cases hh.symm.trans hl
  | start _ _ h =>
    rw [h, failures_commitCheck, failures_acceptStartMarker, failures_emit (by decide), State.takeSlot_out]
  | ordinary _ _ h => rw [h, failures_commitCheck, State.takeSlot_out]

/-- R254: a high event runs one position rule, or fails as Invalid; its classification event is no failure. -/
theorem EventCase.failures_le {s t : State} (h : EventCase s t) : failures t.out ≤ failures s.out + 1 := by
  cases h with
  | zero _ _ h => simpa only [failures_emit (c := .onZero) (by decide), State.takeSlot_out] using h.failures_le
  | one _ _ h => simpa only [failures_emit (c := .onOne) (by decide), State.takeSlot_out] using h.failures_le
  | invalid _ _ h => rw [h, failures_failRecovery, failures_emit (by decide), State.takeSlot_out]
  | start hl hc h => exact (failures_of_low (.start hl hc h) hl).le.trans (Nat.le_succ _)
  | ordinary hl hc h => exact (failures_of_low (.ordinary hl hc h) hl).le.trans (Nat.le_succ _)

/-- Settles O37: by the inversion of `Poll`, an empty mailbox delivers nothing, and the event taken fails at most once. -/
theorem atMostOneFailurePerPoll : Obligations.AtMostOneFailurePerPoll := by
  intro s t h
  obtain ⟨-, rfl⟩ | ⟨hf, he⟩ := poll_cases h
  · exact ⟨Nat.le_succ _, fun _ => rfl⟩
  · refine ⟨he.failures_le, fun hquiet => he.failures_of_low (hquiet.resolve_left ?_)⟩
    simp [hf]

end Sys2Proof.Machine
end

section
/-! SUPPORT. Reset applied to a running block (70_reset_and_hazards.md R280). -/

namespace Sys2Proof.Machine

/-- R53: taking from an empty mailbox changes nothing. -/
theorem State.takeSlot_of_empty {s : State} (hempty : s.slot.full = false) : s.takeSlot = s := by
  calc s.takeSlot
    _ = { s with slot := { s.slot with full := s.slot.full } } := by rw [State.takeSlot, hempty]
    _ = s := rfl

/-- Settles O39: reset clears the frame and takes the slot; a waiting block's frame is cleared already, and an empty
slot is taken already. -/
theorem applyingResetClearsTheBlock : Obligations.ApplyingResetClearsTheBlock := by
  constructor
  · intro s
    exact ⟨rfl, s.getX_clearFrame, rfl, rfl, rfl, rfl, rfl, rfl⟩
  · intro s hds hacc hpar hci hempty
    have hs : Waiting s := ⟨hds, hacc, hpar, hci⟩
    rw [State.applyReset, clearFrame_of_waiting hs, State.takeSlot_of_empty hempty]

end Sys2Proof.Machine
end
